-- ==== Sys2Proof/Word.lean ====
section
/-! DEFINITION. The word types of APNG-CORE and the exact division of rule R11. -/

namespace Sys2Proof

/-- One byte of a byte memory. -/
abbrev Byte := BitVec 8

/-- A 32-bit register or bus word (R22). -/
abbrev Word := BitVec 32

/-- R11: `ceil(a / b)` means `(a + b - 1) div b`, on exact naturals. -/
def ceilDiv (a b : Nat) : Nat := (a + b - 1) / b

end Sys2Proof
end

