-- ==== Sys2Proof/Config.lean ====
section
/-! DEFINITION. What an implementation fixes (the OPEN parameters of R8 and R70) and the free values. -/

namespace Sys2Proof

/-- The OPEN parameters of R8 and R70. "A model takes each one as an argument": a state carries them, no
step changes them, and a statement about every state holds for every choice of them. -/
structure Params where
  /-- `P_IN_CAP`: bytes in memory IN. -/
  inCap : Nat
  /-- `P_OUT_CAP`: bytes in memory OUT. -/
  outCap : Nat
  /-- `P_CANVAS_CAP`: bytes in memory CANVAS. -/
  canvasCap : Nat
  /-- `P_SNAP_CAP`: bytes in memory SNAP. -/
  snapCap : Nat
  /-- `P_BASE`: the block's base address on the platform bus (R70, R296). -/
  base : Word
  deriving DecidableEq, Repr

/-- The constraints of R8 on the four capacities. -/
abbrev Params.wf (p : Params) : Prop :=
  2 ≤ p.inCap ∧ p.inCap ≤ 2 ^ 24 ∧
  1 ≤ p.outCap ∧ p.outCap ≤ 2 ^ 24 ∧
  4 ≤ p.canvasCap ∧ p.canvasCap ≤ 2 ^ 24 ∧ p.canvasCap % 4 = 0 ∧
  4 ≤ p.snapCap ∧ p.snapCap ≤ 2 ^ 24 ∧ p.snapCap % 4 = 0

/-- The parameters the reset state carries: the capacities of the programs of 95_test_vectors.md and base 0.
DESIGN CHOICE (log 1), unsafe for a claim about `State.reset` alone: R8 chooses no value. -/
def Params.chosen : Params :=
  { inCap := 4096, outCap := 4096, canvasCap := 4096, snapCap := 4096, base := 0 }

/-- A byte the spec leaves unspecified (R287, R311 step 1), the `k`-th drawn. Safe: nothing is known of it. -/
opaque Config.freeByte : Nat → Byte

/-- A register value the spec leaves unspecified (R34, R35, R287), the `k`-th drawn. Safe. -/
opaque Config.freeWord : Nat → Word

/-- A table-RAM entry the spec leaves unspecified (R145, R287), the `k`-th drawn. Safe. -/
opaque Config.freeEntry : Nat → BitVec 10

end Sys2Proof
end

