-- ==== Sys2Proof/Syntax.lean ====
section
/-! DEFINITION. The instructions: one constructor per mnemonic of spec/opcode_table.json, and the code spaces
they are read from. The rows of one mnemonic that differ only in the space they are written in (a fixed code or a
decoded symbol) are one constructor. -/

namespace Sys2Proof

/-- Where a dispose code is consulted in one COMPOSITE cycle. -/
inductive DisposeUse where
  /-- FRAME_OPS.DISPOSE, validated by `CompositeChecks` (R222). -/
  | check
  /-- PREV_OPS.PREV_DISPOSE, acted on by step 1 (R224 to R226). -/
  | restore
  /-- FRAME_OPS.DISPOSE, acted on by step 2 (R227). -/
  | snap
  deriving DecidableEq, Repr

/-- Where the blend code FRAME_OPS.BLEND is consulted in one COMPOSITE cycle. -/
inductive BlendUse where
  /-- Validated by `CompositeChecks` (R222). -/
  | check
  /-- Acted on by step 3 (R228 to R231). -/
  | paint
  deriving DecidableEq, Repr

/-- The code spaces of 30_encoding.md: the word alone does not say which space it belongs to, the engine's
position does (R101). -/
inductive Format where
  /-- 32-bit command word (R100). -/
  | cmd
  /-- 3-bit block header (R103). -/
  | blockHdr
  /-- 7-bit fixed literal/length code value, most significant bit first in the stream (R115). -/
  | fixedLL7
  /-- 8-bit fixed literal/length code value (R115). -/
  | fixedLL8
  /-- 9-bit fixed literal/length code value (R115). -/
  | fixedLL9
  /-- 5-bit fixed distance code value (R116). -/
  | fixedD5
  /-- Decoded literal/length symbol (R109). -/
  | llSym
  /-- Decoded distance symbol (R111). -/
  | dSym
  /-- Decoded code-length symbol (R108). -/
  | clSym
  /-- First zlib byte CMF (R102). -/
  | zlibCmf
  /-- Second zlib byte FLG (R102). -/
  | zlibFlg
  /-- Filter-type byte of a row (R120). -/
  | filterType
  /-- Dispose code, at one of its three uses (R122). -/
  | dispose (u : DisposeUse)
  /-- Blend code, at one of its two uses (R122). -/
  | blend (u : BlendUse)
  /-- CTRL.BLEND_MODE (R31). -/
  | blendMode
  /-- TBL_SEL (R45). -/
  | tblSel
  /-- COLOR[15:0]: COLOR_TYPE in [7:0], BIT_DEPTH in [15:8] (R121). -/
  | color
  deriving DecidableEq, Repr

/-- The instructions of APNG-CORE: command words, stream elements, and the codes the engine interprets. -/
inductive Instr where
  /-- R259 -/
  | nop
  /-- R251 -/
  | inflateZlib
  /-- R252 -/
  | inflateRaw
  /-- R253 -/
  | defilter
  /-- R254 -/
  | decodeFrame
  /-- R255 -/
  | composite
  /-- R256 -/
  | buildTable
  /-- R257 -/
  | creset
  /-- R258: an OP value 8 to 15. -/
  | cmdReserved (op : Nat)
  /-- R163, with the header's BFINAL. -/
  | stored (bfinal : Bool)
  /-- R165, with the header's BFINAL. -/
  | fixed (bfinal : Bool)
  /-- R166, with the header's BFINAL. -/
  | dynamic (bfinal : Bool)
  /-- R162, with the header's BFINAL. -/
  | btypeReserved (bfinal : Bool)
  /-- R172: the byte to emit. -/
  | lit (v : Nat)
  /-- R173 -/
  | eob
  /-- R174: a length symbol 257 to 285. -/
  | len (sym : Nat)
  /-- R178: symbol 286 or 287. -/
  | llInvalid (sym : Nat)
  /-- R175: a distance symbol 0 to 29. -/
  | dist (dsym : Nat)
  /-- R175: distance symbol 30 or 31. -/
  | distInvalid (dsym : Nat)
  /-- R167: a code length 0 to 15. -/
  | clLen (l : Nat)
  /-- R167: symbol 16. -/
  | clRepeatPrev
  /-- R168: symbol 17. -/
  | clRepeatZeroShort
  /-- R168: symbol 18. -/
  | clRepeatZeroLong
  /-- R191: a CMF byte with CM = 8, and its CINFO 0 to 7. -/
  | zlibCmfOk (cinfo : Nat)
  /-- R192: a FLG byte with FDICT = 0, and its FLEVEL and FCHECK fields. -/
  | zlibFlgFdictClear (flevel fcheck : Nat)
  /-- R205 -/
  | filtNone
  /-- R206 -/
  | filtSub
  /-- R207 -/
  | filtUp
  /-- R208 -/
  | filtAverage
  /-- R209 -/
  | filtPaeth
  /-- R204: a filter-type byte 5 to 255. -/
  | filtInvalid (v : Nat)
  /-- R224: dispose code 0. -/
  | disposeNone (u : DisposeUse)
  /-- R225: dispose code 1. -/
  | disposeBackground (u : DisposeUse)
  /-- R226 and R227: dispose code 2. -/
  | disposePrevious (u : DisposeUse)
  /-- R222: a dispose code 3 to 255. -/
  | disposeInvalid (u : DisposeUse) (v : Nat)
  /-- R230: blend code 0. -/
  | blendSource (u : BlendUse)
  /-- R231: blend code 1. -/
  | blendOver (u : BlendUse)
  /-- R222: a blend code 2 to 255. -/
  | blendInvalid (u : BlendUse) (v : Nat)
  /-- R232: mode 0. -/
  | blendModeSingleDiv
  /-- R232: mode 1. -/
  | blendModePerTerm
  /-- R232: mode 2. -/
  | blendModeRefTrunc
  /-- R222: mode 3. -/
  | blendModeReserved
  /-- R256: TBL_SEL = 0. -/
  | tblTll
  /-- R256: TBL_SEL = 1. -/
  | tblTd
  /-- R256: TBL_SEL = 2. -/
  | tblTcl
  /-- R256: TBL_SEL = 3. -/
  | tblReserved
  /-- R200: (0, 1). -/
  | fmtGray1
  /-- R200: (0, 2). -/
  | fmtGray2
  /-- R200: (0, 4). -/
  | fmtGray4
  /-- R200: (0, 8). -/
  | fmtGray8
  /-- R200: (0, 16). -/
  | fmtGray16
  /-- R200: (2, 8). -/
  | fmtRgb8
  /-- R200: (2, 16). -/
  | fmtRgb16
  /-- R200: (3, 1). -/
  | fmtIndexed1
  /-- R200: (3, 2). -/
  | fmtIndexed2
  /-- R200: (3, 4). -/
  | fmtIndexed4
  /-- R200: (3, 8). -/
  | fmtIndexed8
  /-- R200: (4, 8). -/
  | fmtGrayAlpha8
  /-- R200: (4, 16). -/
  | fmtGrayAlpha16
  /-- R200: (6, 8). -/
  | fmtRgba8
  /-- R200: (6, 16). -/
  | fmtRgba16
  deriving DecidableEq, Repr

end Sys2Proof
end

