-- ==== Sys2Proof/WellFormed.lean ====
section
/-! DEFINITION. Which instruction terms an encoding of 30_encoding.md can give. -/

namespace Sys2Proof

/-- Every operand lies in the range its code space gives it. -/
def Instr.wf : Instr → Bool
  | .cmdReserved op => 8 ≤ op && op ≤ 15
  | .lit v => v ≤ 255
  | .len sym => 257 ≤ sym && sym ≤ 285
  | .llInvalid sym => 286 ≤ sym && sym ≤ 287
  | .dist dsym => dsym ≤ 29
  | .distInvalid dsym => 30 ≤ dsym && dsym ≤ 31
  | .clLen l => l ≤ 15
  | .zlibCmfOk cinfo => cinfo ≤ 7
  | .zlibFlgFdictClear flevel fcheck => flevel ≤ 3 && fcheck ≤ 31
  | .filtInvalid v => 5 ≤ v && v ≤ 255
  | .disposeInvalid _ v => 3 ≤ v && v ≤ 255
  | .blendInvalid _ v => 2 ≤ v && v ≤ 255
  | .nop | .inflateZlib | .inflateRaw | .defilter | .decodeFrame | .composite | .buildTable | .creset
  | .stored _ | .fixed _ | .dynamic _ | .btypeReserved _ | .eob
  | .clRepeatPrev | .clRepeatZeroShort | .clRepeatZeroLong
  | .filtNone | .filtSub | .filtUp | .filtAverage | .filtPaeth
  | .disposeNone _ | .disposeBackground _ | .disposePrevious _ | .blendSource _ | .blendOver _
  | .blendModeSingleDiv | .blendModePerTerm | .blendModeRefTrunc | .blendModeReserved
  | .tblTll | .tblTd | .tblTcl | .tblReserved
  | .fmtGray1 | .fmtGray2 | .fmtGray4 | .fmtGray8 | .fmtGray16 | .fmtRgb8 | .fmtRgb16
  | .fmtIndexed1 | .fmtIndexed2 | .fmtIndexed4 | .fmtIndexed8 | .fmtGrayAlpha8 | .fmtGrayAlpha16
  | .fmtRgba8 | .fmtRgba16 => true

end Sys2Proof
end

