-- ==== Sys2Proof/Decode.lean ====
section
/-! DEFINITION. The decoder, total on any word of any code space and rejecting by name, and after it the encoder,
both written from the encodings of 30_encoding.md; then the opcode table as data. -/

namespace Sys2Proof

/-- Why a word of a code space is no instruction. -/
inductive Reject where
  /-- CM ≠ 8 or CINFO > 7 (R191). -/
  | cmfMethod
  /-- FDICT = 1 (R192). -/
  | fdictSet
  /-- (COLOR_TYPE, BIT_DEPTH) outside the format table (R200, R201). -/
  | unmatchedFormat
  /-- The code space assigns the word nothing and the engine never reads it there. -/
  | noCode
  deriving DecidableEq, Repr

/-- R100: the OP map. Bits [31:4] of the command word are ignored. -/
def decodeCmd (w : Nat) : Except Reject Instr :=
  if 2 ^ 32 ≤ w then .error .noCode
  else match w % 16 with
    | 0 => .ok .nop
    | 1 => .ok .inflateZlib
    | 2 => .ok .inflateRaw
    | 3 => .ok .defilter
    | 4 => .ok .decodeFrame
    | 5 => .ok .composite
    | 6 => .ok .buildTable
    | 7 => .ok .creset
    | op => .ok (.cmdReserved op)

/-- R103 and R104: BFINAL is bit 0 and BTYPE bits [2:1] of the 3-bit header. -/
def decodeBlockHdr (w : Nat) : Except Reject Instr :=
  if 8 ≤ w then .error .noCode
  else match w / 2 with
    | 0 => .ok (.stored (w % 2 = 1))
    | 1 => .ok (.fixed (w % 2 = 1))
    | 2 => .ok (.dynamic (w % 2 = 1))
    | _ => .ok (.btypeReserved (w % 2 = 1))

/-- R109: the decoded literal/length symbols. -/
def decodeLLSym (w : Nat) : Except Reject Instr :=
  if w ≤ 255 then .ok (.lit w)
  else if w = 256 then .ok .eob
  else if w ≤ 285 then .ok (.len w)
  else if w ≤ 287 then .ok (.llInvalid w)
  else .error .noCode

/-- R115: 7-bit codes 0000000 to 0010111 are symbols 256 to 279. -/
def decodeFixedLL7 (w : Nat) : Except Reject Instr :=
  if w ≤ 0x17 then decodeLLSym (256 + w) else .error .noCode

/-- R115: 8-bit codes 0x30 to 0xBF are literals 0 to 143, 0xC0 to 0xC7 are symbols 280 to 287. -/
def decodeFixedLL8 (w : Nat) : Except Reject Instr :=
  if 0x30 ≤ w ∧ w ≤ 0xBF then decodeLLSym (w - 0x30)
  else if 0xC0 ≤ w ∧ w ≤ 0xC7 then decodeLLSym (280 + (w - 0xC0))
  else .error .noCode

/-- R115: 9-bit codes 0x190 to 0x1FF are literals 144 to 255. -/
def decodeFixedLL9 (w : Nat) : Except Reject Instr :=
  if 0x190 ≤ w ∧ w ≤ 0x1FF then decodeLLSym (144 + (w - 0x190)) else .error .noCode

/-- R111 (and R116, where the fixed code of symbol d is d): the distance symbols. -/
def decodeDSym (w : Nat) : Except Reject Instr :=
  if w ≤ 29 then .ok (.dist w)
  else if w ≤ 31 then .ok (.distInvalid w)
  else .error .noCode

/-- R108: the code-length symbols. -/
def decodeCLSym (w : Nat) : Except Reject Instr :=
  if w ≤ 15 then .ok (.clLen w)
  else match w with
    | 16 => .ok .clRepeatPrev
    | 17 => .ok .clRepeatZeroShort
    | 18 => .ok .clRepeatZeroLong
    | _ => .error .noCode

/-- R102 and R191: CM is CMF[3:0], CINFO is CMF[7:4]. -/
def decodeZlibCmf (w : Nat) : Except Reject Instr :=
  if 256 ≤ w then .error .noCode
  else if w % 16 = 8 ∧ w / 16 ≤ 7 then .ok (.zlibCmfOk (w / 16))
  else .error .cmfMethod

/-- R102 and R192: FCHECK is FLG[4:0], FDICT is FLG[5], FLEVEL is FLG[7:6]. -/
def decodeZlibFlg (w : Nat) : Except Reject Instr :=
  if 256 ≤ w then .error .noCode
  else if w / 32 % 2 = 1 then .error .fdictSet
  else .ok (.zlibFlgFdictClear (w / 64) (w % 32))

/-- R120: the filter-type byte map. -/
def decodeFilterType (w : Nat) : Except Reject Instr :=
  if 256 ≤ w then .error .noCode
  else match w with
    | 0 => .ok .filtNone
    | 1 => .ok .filtSub
    | 2 => .ok .filtUp
    | 3 => .ok .filtAverage
    | 4 => .ok .filtPaeth
    | v => .ok (.filtInvalid v)

/-- R122: the dispose codes. -/
def decodeDispose (u : DisposeUse) (w : Nat) : Except Reject Instr :=
  if 256 ≤ w then .error .noCode
  else match w with
    | 0 => .ok (.disposeNone u)
    | 1 => .ok (.disposeBackground u)
    | 2 => .ok (.disposePrevious u)
    | v => .ok (.disposeInvalid u v)

/-- R122: the blend codes. -/
def decodeBlend (u : BlendUse) (w : Nat) : Except Reject Instr :=
  if 256 ≤ w then .error .noCode
  else match w with
    | 0 => .ok (.blendSource u)
    | 1 => .ok (.blendOver u)
    | v => .ok (.blendInvalid u v)

/-- R31: CTRL.BLEND_MODE. -/
def decodeBlendMode (w : Nat) : Except Reject Instr :=
  match w with
  | 0 => .ok .blendModeSingleDiv
  | 1 => .ok .blendModePerTerm
  | 2 => .ok .blendModeRefTrunc
  | 3 => .ok .blendModeReserved
  | _ => .error .noCode

/-- R45: TBL_SEL. -/
def decodeTblSel (w : Nat) : Except Reject Instr :=
  match w with
  | 0 => .ok .tblTll
  | 1 => .ok .tblTd
  | 2 => .ok .tblTcl
  | 3 => .ok .tblReserved
  | _ => .error .noCode

/-- R121 and R200: COLOR[7:0] is COLOR_TYPE, COLOR[15:8] is BIT_DEPTH. -/
def decodeColor (w : Nat) : Except Reject Instr :=
  if 2 ^ 16 ≤ w then .error .noCode
  else match w % 256, w / 256 with
    | 0, 1 => .ok .fmtGray1
    | 0, 2 => .ok .fmtGray2
    | 0, 4 => .ok .fmtGray4
    | 0, 8 => .ok .fmtGray8
    | 0, 16 => .ok .fmtGray16
    | 2, 8 => .ok .fmtRgb8
    | 2, 16 => .ok .fmtRgb16
    | 3, 1 => .ok .fmtIndexed1
    | 3, 2 => .ok .fmtIndexed2
    | 3, 4 => .ok .fmtIndexed4
    | 3, 8 => .ok .fmtIndexed8
    | 4, 8 => .ok .fmtGrayAlpha8
    | 4, 16 => .ok .fmtGrayAlpha16
    | 6, 8 => .ok .fmtRgba8
    | 6, 16 => .ok .fmtRgba16
    | _, _ => .error .unmatchedFormat

/-- The decoder: the instruction a word of a code space stands for, or why it is none. -/
def decode (fmt : Format) (w : Nat) : Except Reject Instr :=
  match fmt with
  | .cmd => decodeCmd w
  | .blockHdr => decodeBlockHdr w
  | .fixedLL7 => decodeFixedLL7 w
  | .fixedLL8 => decodeFixedLL8 w
  | .fixedLL9 => decodeFixedLL9 w
  | .fixedD5 => decodeDSym w
  | .llSym => decodeLLSym w
  | .dSym => decodeDSym w
  | .clSym => decodeCLSym w
  | .zlibCmf => decodeZlibCmf w
  | .zlibFlg => decodeZlibFlg w
  | .filterType => decodeFilterType w
  | .dispose u => decodeDispose u w
  | .blend u => decodeBlend u w
  | .blendMode => decodeBlendMode w
  | .tblSel => decodeTblSel w
  | .color => decodeColor w

/-! ### The encoder -/

/-- R100 -/
def encodeCmd : Instr → Option Nat
  | .nop => some 0
  | .inflateZlib => some 1
  | .inflateRaw => some 2
  | .defilter => some 3
  | .decodeFrame => some 4
  | .composite => some 5
  | .buildTable => some 6
  | .creset => some 7
  | .cmdReserved op => some op
  | _ => none

/-- R103 and R104 -/
def encodeBlockHdr : Instr → Option Nat
  | .stored b => some b.toNat
  | .fixed b => some (2 + b.toNat)
  | .dynamic b => some (4 + b.toNat)
  | .btypeReserved b => some (6 + b.toNat)
  | _ => none

/-- R109 -/
def encodeLLSym : Instr → Option Nat
  | .lit v => some v
  | .eob => some 256
  | .len sym => some sym
  | .llInvalid sym => some sym
  | _ => none

/-- R115, the 7-bit row. -/
def encodeFixedLL7 (i : Instr) : Option Nat :=
  match encodeLLSym i with
  | some s => if 256 ≤ s ∧ s ≤ 279 then some (s - 256) else none
  | none => none

/-- R115, the two 8-bit rows. -/
def encodeFixedLL8 (i : Instr) : Option Nat :=
  match encodeLLSym i with
  | some s =>
    if s ≤ 143 then some (0x30 + s) else if 280 ≤ s ∧ s ≤ 287 then some (0xC0 + (s - 280)) else none
  | none => none

/-- R115, the 9-bit row. -/
def encodeFixedLL9 (i : Instr) : Option Nat :=
  match encodeLLSym i with
  | some s => if 144 ≤ s ∧ s ≤ 255 then some (0x190 + (s - 144)) else none
  | none => none

/-- R111 and R116 -/
def encodeDSym : Instr → Option Nat
  | .dist d => some d
  | .distInvalid d => some d
  | _ => none

/-- R108 -/
def encodeCLSym : Instr → Option Nat
  | .clLen l => some l
  | .clRepeatPrev => some 16
  | .clRepeatZeroShort => some 17
  | .clRepeatZeroLong => some 18
  | _ => none

/-- R102 -/
def encodeZlibCmf : Instr → Option Nat
  | .zlibCmfOk cinfo => some (cinfo * 16 + 8)
  | _ => none

/-- R102 -/
def encodeZlibFlg : Instr → Option Nat
  | .zlibFlgFdictClear flevel fcheck => some (flevel * 64 + fcheck)
  | _ => none

/-- R120 -/
def encodeFilterType : Instr → Option Nat
  | .filtNone => some 0
  | .filtSub => some 1
  | .filtUp => some 2
  | .filtAverage => some 3
  | .filtPaeth => some 4
  | .filtInvalid v => some v
  | _ => none

/-- R122 -/
def encodeDispose (u : DisposeUse) : Instr → Option Nat
  | .disposeNone u' => if u' = u then some 0 else none
  | .disposeBackground u' => if u' = u then some 1 else none
  | .disposePrevious u' => if u' = u then some 2 else none
  | .disposeInvalid u' v => if u' = u then some v else none
  | _ => none

/-- R122 -/
def encodeBlend (u : BlendUse) : Instr → Option Nat
  | .blendSource u' => if u' = u then some 0 else none
  | .blendOver u' => if u' = u then some 1 else none
  | .blendInvalid u' v => if u' = u then some v else none
  | _ => none

/-- R31 -/
def encodeBlendMode : Instr → Option Nat
  | .blendModeSingleDiv => some 0
  | .blendModePerTerm => some 1
  | .blendModeRefTrunc => some 2
  | .blendModeReserved => some 3
  | _ => none

/-- R45 -/
def encodeTblSel : Instr → Option Nat
  | .tblTll => some 0
  | .tblTd => some 1
  | .tblTcl => some 2
  | .tblReserved => some 3
  | _ => none

/-- R121 and R200 -/
def encodeColor : Instr → Option Nat
  | .fmtGray1 => some 0x0100
  | .fmtGray2 => some 0x0200
  | .fmtGray4 => some 0x0400
  | .fmtGray8 => some 0x0800
  | .fmtGray16 => some 0x1000
  | .fmtRgb8 => some 0x0802
  | .fmtRgb16 => some 0x1002
  | .fmtIndexed1 => some 0x0103
  | .fmtIndexed2 => some 0x0203
  | .fmtIndexed4 => some 0x0403
  | .fmtIndexed8 => some 0x0803
  | .fmtGrayAlpha8 => some 0x0804
  | .fmtGrayAlpha16 => some 0x1004
  | .fmtRgba8 => some 0x0806
  | .fmtRgba16 => some 0x1006
  | _ => none

/-- The word of an instruction in a code space, if that space has one for it. Ignored bits (CMD[31:4]) are 0. -/
def encodeIn (fmt : Format) (i : Instr) : Option Nat :=
  match fmt with
  | .cmd => encodeCmd i
  | .blockHdr => encodeBlockHdr i
  | .fixedLL7 => encodeFixedLL7 i
  | .fixedLL8 => encodeFixedLL8 i
  | .fixedLL9 => encodeFixedLL9 i
  | .fixedD5 => encodeDSym i
  | .llSym => encodeLLSym i
  | .dSym => encodeDSym i
  | .clSym => encodeCLSym i
  | .zlibCmf => encodeZlibCmf i
  | .zlibFlg => encodeZlibFlg i
  | .filterType => encodeFilterType i
  | .dispose u => encodeDispose u i
  | .blend u => encodeBlend u i
  | .blendMode => encodeBlendMode i
  | .tblSel => encodeTblSel i
  | .color => encodeColor i

/-- The code space an instruction is read from when the engine executes it. -/
def Instr.format : Instr → Format
  | .nop | .inflateZlib | .inflateRaw | .defilter | .decodeFrame | .composite | .buildTable | .creset
  | .cmdReserved _ => .cmd
  | .stored _ | .fixed _ | .dynamic _ | .btypeReserved _ => .blockHdr
  | .lit _ | .eob | .len _ | .llInvalid _ => .llSym
  | .dist _ | .distInvalid _ => .dSym
  | .clLen _ | .clRepeatPrev | .clRepeatZeroShort | .clRepeatZeroLong => .clSym
  | .zlibCmfOk _ => .zlibCmf
  | .zlibFlgFdictClear _ _ => .zlibFlg
  | .filtNone | .filtSub | .filtUp | .filtAverage | .filtPaeth | .filtInvalid _ => .filterType
  | .disposeNone u | .disposeBackground u | .disposePrevious u | .disposeInvalid u _ => .dispose u
  | .blendSource u | .blendOver u | .blendInvalid u _ => .blend u
  | .blendModeSingleDiv | .blendModePerTerm | .blendModeRefTrunc | .blendModeReserved => .blendMode
  | .tblTll | .tblTd | .tblTcl | .tblReserved => .tblSel
  | .fmtGray1 | .fmtGray2 | .fmtGray4 | .fmtGray8 | .fmtGray16 | .fmtRgb8 | .fmtRgb16
  | .fmtIndexed1 | .fmtIndexed2 | .fmtIndexed4 | .fmtIndexed8 | .fmtGrayAlpha8 | .fmtGrayAlpha16
  | .fmtRgba8 | .fmtRgba16 => .color

/-- The word of a well-formed instruction in its own code space. -/
def encode (i : Instr) : Option Nat := encodeIn i.format i

/-! ### The opcode table -/

/-- The bits of a word of a code space. -/
def Format.width : Format → Nat
  | .cmd => 32
  | .blockHdr => 3
  | .fixedLL7 => 7
  | .fixedLL8 => 8
  | .fixedLL9 => 9
  | .fixedD5 | .dSym | .clSym => 5
  | .llSym => 9
  | .zlibCmf | .zlibFlg | .filterType => 8
  | .dispose _ | .blend _ => 8
  | .blendMode | .tblSel => 2
  | .color => 16

/-- The mnemonic of spec/opcode_table.json an instruction stands for. -/
def Instr.mnemonic : Instr → String
  | .nop => "NOP"
  | .inflateZlib => "INFLATE_ZLIB"
  | .inflateRaw => "INFLATE_RAW"
  | .defilter => "DEFILTER"
  | .decodeFrame => "DECODE_FRAME"
  | .composite => "COMPOSITE"
  | .buildTable => "BUILD_TABLE"
  | .creset => "CRESET"
  | .cmdReserved _ => "CMD_RESERVED"
  | .stored _ => "STORED"
  | .fixed _ => "FIXED"
  | .dynamic _ => "DYNAMIC"
  | .btypeReserved _ => "BTYPE_RESERVED"
  | .lit _ => "LIT"
  | .eob => "EOB"
  | .len _ => "LEN"
  | .llInvalid _ => "LL_INVALID"
  | .dist _ => "DIST"
  | .distInvalid _ => "DIST_INVALID"
  | .clLen _ => "CL_LEN"
  | .clRepeatPrev => "CL_REPEAT_PREV"
  | .clRepeatZeroShort => "CL_REPEAT_ZERO_SHORT"
  | .clRepeatZeroLong => "CL_REPEAT_ZERO_LONG"
  | .zlibCmfOk _ => "ZLIB_CMF_OK"
  | .zlibFlgFdictClear _ _ => "ZLIB_FLG_FDICT_CLEAR"
  | .filtNone => "FILT_NONE"
  | .filtSub => "FILT_SUB"
  | .filtUp => "FILT_UP"
  | .filtAverage => "FILT_AVERAGE"
  | .filtPaeth => "FILT_PAETH"
  | .filtInvalid _ => "FILT_INVALID"
  | .disposeNone _ => "DISPOSE_NONE"
  | .disposeBackground _ => "DISPOSE_BACKGROUND"
  | .disposePrevious _ => "DISPOSE_PREVIOUS"
  | .disposeInvalid _ _ => "DISPOSE_INVALID"
  | .blendSource _ => "BLEND_SOURCE"
  | .blendOver _ => "BLEND_OVER"
  | .blendInvalid _ _ => "BLEND_INVALID"
  | .blendModeSingleDiv => "BLEND_MODE_SINGLE_DIV"
  | .blendModePerTerm => "BLEND_MODE_PER_TERM"
  | .blendModeRefTrunc => "BLEND_MODE_REF_TRUNC"
  | .blendModeReserved => "BLEND_MODE_RESERVED"
  | .tblTll => "TBL_TLL"
  | .tblTd => "TBL_TD"
  | .tblTcl => "TBL_TCL"
  | .tblReserved => "TBL_RESERVED"
  | .fmtGray1 => "FMT_GRAY1"
  | .fmtGray2 => "FMT_GRAY2"
  | .fmtGray4 => "FMT_GRAY4"
  | .fmtGray8 => "FMT_GRAY8"
  | .fmtGray16 => "FMT_GRAY16"
  | .fmtRgb8 => "FMT_RGB8"
  | .fmtRgb16 => "FMT_RGB16"
  | .fmtIndexed1 => "FMT_INDEXED1"
  | .fmtIndexed2 => "FMT_INDEXED2"
  | .fmtIndexed4 => "FMT_INDEXED4"
  | .fmtIndexed8 => "FMT_INDEXED8"
  | .fmtGrayAlpha8 => "FMT_GRAY_ALPHA8"
  | .fmtGrayAlpha16 => "FMT_GRAY_ALPHA16"
  | .fmtRgba8 => "FMT_RGBA8"
  | .fmtRgba16 => "FMT_RGBA16"

/-- One row of spec/opcode_table.json: a word `w` of the code space is the row's when `w &&& mask = pattern`. -/
structure OpcodeRow where
  fmt : Format
  name : String
  pattern : Nat
  mask : Nat
  deriving DecidableEq, Repr

/-- Whether a word of the row's code space is the row's. -/
def OpcodeRow.covers (r : OpcodeRow) (w : Nat) : Bool :=
  w < 2 ^ r.fmt.width && w &&& r.mask == r.pattern

/-- The 108 rows of spec/opcode_table.json, in its order. -/
def opcodeRows : List OpcodeRow :=
  [⟨.cmd, "NOP", 0x0, 0xF⟩, ⟨.cmd, "INFLATE_ZLIB", 0x1, 0xF⟩, ⟨.cmd, "INFLATE_RAW", 0x2, 0xF⟩,
   ⟨.cmd, "DEFILTER", 0x3, 0xF⟩, ⟨.cmd, "DECODE_FRAME", 0x4, 0xF⟩, ⟨.cmd, "COMPOSITE", 0x5, 0xF⟩,
   ⟨.cmd, "BUILD_TABLE", 0x6, 0xF⟩, ⟨.cmd, "CRESET", 0x7, 0xF⟩, ⟨.cmd, "CMD_RESERVED", 0x8, 0x8⟩] ++
  [⟨.blockHdr, "STORED", 0x0, 0x6⟩, ⟨.blockHdr, "FIXED", 0x2, 0x6⟩, ⟨.blockHdr, "DYNAMIC", 0x4, 0x6⟩,
   ⟨.blockHdr, "BTYPE_RESERVED", 0x6, 0x6⟩] ++
  [⟨.fixedLL8, "LIT", 0x30, 0xF0⟩, ⟨.fixedLL8, "LIT", 0x40, 0xC0⟩, ⟨.fixedLL8, "LIT", 0x80, 0xC0⟩] ++
  [⟨.fixedLL9, "LIT", 0x190, 0x1F0⟩, ⟨.fixedLL9, "LIT", 0x1A0, 0x1E0⟩, ⟨.fixedLL9, "LIT", 0x1C0, 0x1C0⟩] ++
  [⟨.fixedLL7, "EOB", 0x0, 0x7F⟩, ⟨.fixedLL7, "LEN", 0x1, 0x7F⟩, ⟨.fixedLL7, "LEN", 0x2, 0x7E⟩,
   ⟨.fixedLL7, "LEN", 0x4, 0x7C⟩, ⟨.fixedLL7, "LEN", 0x8, 0x78⟩, ⟨.fixedLL7, "LEN", 0x10, 0x78⟩] ++
  [⟨.fixedLL8, "LEN", 0xC0, 0xFC⟩, ⟨.fixedLL8, "LEN", 0xC4, 0xFE⟩, ⟨.fixedLL8, "LL_INVALID", 0xC6, 0xFE⟩] ++
  [⟨.fixedD5, "DIST", 0x0, 0x10⟩, ⟨.fixedD5, "DIST", 0x10, 0x18⟩, ⟨.fixedD5, "DIST", 0x18, 0x1C⟩,
   ⟨.fixedD5, "DIST", 0x1C, 0x1E⟩, ⟨.fixedD5, "DIST_INVALID", 0x1E, 0x1E⟩] ++
  [⟨.llSym, "LIT", 0x0, 0x100⟩, ⟨.llSym, "EOB", 0x100, 0x1FF⟩, ⟨.llSym, "LEN", 0x101, 0x1FF⟩,
   ⟨.llSym, "LEN", 0x102, 0x1FE⟩, ⟨.llSym, "LEN", 0x104, 0x1FC⟩, ⟨.llSym, "LEN", 0x108, 0x1F8⟩,
   ⟨.llSym, "LEN", 0x110, 0x1F8⟩, ⟨.llSym, "LEN", 0x118, 0x1FC⟩, ⟨.llSym, "LEN", 0x11C, 0x1FE⟩,
   ⟨.llSym, "LL_INVALID", 0x11E, 0x1FE⟩] ++
  [⟨.dSym, "DIST", 0x0, 0x10⟩, ⟨.dSym, "DIST", 0x10, 0x18⟩, ⟨.dSym, "DIST", 0x18, 0x1C⟩,
   ⟨.dSym, "DIST", 0x1C, 0x1E⟩, ⟨.dSym, "DIST_INVALID", 0x1E, 0x1E⟩] ++
  [⟨.clSym, "CL_LEN", 0x0, 0x10⟩, ⟨.clSym, "CL_REPEAT_PREV", 0x10, 0x1F⟩, ⟨.clSym, "CL_REPEAT_ZERO_SHORT", 0x11, 0x1F⟩,
   ⟨.clSym, "CL_REPEAT_ZERO_LONG", 0x12, 0x1F⟩] ++
  [⟨.zlibCmf, "ZLIB_CMF_OK", 0x8, 0x8F⟩] ++
  [⟨.zlibFlg, "ZLIB_FLG_FDICT_CLEAR", 0x0, 0x20⟩] ++
  [⟨.filterType, "FILT_NONE", 0x0, 0xFF⟩, ⟨.filterType, "FILT_SUB", 0x1, 0xFF⟩, ⟨.filterType, "FILT_UP", 0x2, 0xFF⟩,
   ⟨.filterType, "FILT_AVERAGE", 0x3, 0xFF⟩, ⟨.filterType, "FILT_PAETH", 0x4, 0xFF⟩, ⟨.filterType, "FILT_INVALID", 0x5, 0xFF⟩,
   ⟨.filterType, "FILT_INVALID", 0x6, 0xFE⟩, ⟨.filterType, "FILT_INVALID", 0x8, 0xF8⟩, ⟨.filterType, "FILT_INVALID", 0x10, 0xF0⟩,
   ⟨.filterType, "FILT_INVALID", 0x20, 0xE0⟩, ⟨.filterType, "FILT_INVALID", 0x40, 0xC0⟩, ⟨.filterType, "FILT_INVALID", 0x80, 0x80⟩] ++
  [⟨(.dispose .check), "DISPOSE_NONE", 0x0, 0xFF⟩, ⟨(.dispose .check), "DISPOSE_BACKGROUND", 0x1, 0xFF⟩, ⟨(.dispose .check), "DISPOSE_PREVIOUS", 0x2, 0xFF⟩,
   ⟨(.dispose .check), "DISPOSE_INVALID", 0x3, 0xFF⟩, ⟨(.dispose .check), "DISPOSE_INVALID", 0x4, 0xFC⟩, ⟨(.dispose .check), "DISPOSE_INVALID", 0x8, 0xF8⟩,
   ⟨(.dispose .check), "DISPOSE_INVALID", 0x10, 0xF0⟩, ⟨(.dispose .check), "DISPOSE_INVALID", 0x20, 0xE0⟩, ⟨(.dispose .check), "DISPOSE_INVALID", 0x40, 0xC0⟩,
   ⟨(.dispose .check), "DISPOSE_INVALID", 0x80, 0x80⟩] ++
  [⟨(.blend .check), "BLEND_SOURCE", 0x0, 0xFF⟩, ⟨(.blend .check), "BLEND_OVER", 0x1, 0xFF⟩, ⟨(.blend .check), "BLEND_INVALID", 0x2, 0xFE⟩,
   ⟨(.blend .check), "BLEND_INVALID", 0x4, 0xFC⟩, ⟨(.blend .check), "BLEND_INVALID", 0x8, 0xF8⟩, ⟨(.blend .check), "BLEND_INVALID", 0x10, 0xF0⟩,
   ⟨(.blend .check), "BLEND_INVALID", 0x20, 0xE0⟩, ⟨(.blend .check), "BLEND_INVALID", 0x40, 0xC0⟩, ⟨(.blend .check), "BLEND_INVALID", 0x80, 0x80⟩] ++
  [⟨.blendMode, "BLEND_MODE_SINGLE_DIV", 0x0, 0x3⟩, ⟨.blendMode, "BLEND_MODE_PER_TERM", 0x1, 0x3⟩, ⟨.blendMode, "BLEND_MODE_REF_TRUNC", 0x2, 0x3⟩,
   ⟨.blendMode, "BLEND_MODE_RESERVED", 0x3, 0x3⟩] ++
  [⟨.tblSel, "TBL_TLL", 0x0, 0x3⟩, ⟨.tblSel, "TBL_TD", 0x1, 0x3⟩, ⟨.tblSel, "TBL_TCL", 0x2, 0x3⟩,
   ⟨.tblSel, "TBL_RESERVED", 0x3, 0x3⟩] ++
  [⟨.color, "FMT_GRAY1", 0x100, 0xFFFF⟩, ⟨.color, "FMT_GRAY2", 0x200, 0xFFFF⟩, ⟨.color, "FMT_GRAY4", 0x400, 0xFFFF⟩,
   ⟨.color, "FMT_GRAY8", 0x800, 0xFFFF⟩, ⟨.color, "FMT_GRAY16", 0x1000, 0xFFFF⟩, ⟨.color, "FMT_RGB8", 0x802, 0xFFFF⟩,
   ⟨.color, "FMT_RGB16", 0x1002, 0xFFFF⟩, ⟨.color, "FMT_INDEXED1", 0x103, 0xFFFF⟩, ⟨.color, "FMT_INDEXED2", 0x203, 0xFFFF⟩,
   ⟨.color, "FMT_INDEXED4", 0x403, 0xFFFF⟩, ⟨.color, "FMT_INDEXED8", 0x803, 0xFFFF⟩, ⟨.color, "FMT_GRAY_ALPHA8", 0x804, 0xFFFF⟩,
   ⟨.color, "FMT_GRAY_ALPHA16", 0x1004, 0xFFFF⟩, ⟨.color, "FMT_RGBA8", 0x806, 0xFFFF⟩, ⟨.color, "FMT_RGBA16", 0x1006, 0xFFFF⟩]

/-! ### Words without their context -/

/-- The code space the host's table question reads a bare word in. A word of the opcode table does not say which
space it belongs to (R101): the engine's position does. DESIGN CHOICE (log 2), of no effect on any step of the
machine: `step` always knows the space. -/
def tableFormat (nbits w : Nat) : Format :=
  if 16 < nbits then .cmd
  else if 8 < nbits then
    match decodeColor w with
    | .ok _ => .color
    | .error _ =>
      if 0x30 ≤ w ∧ w ≤ 0xC7 then .fixedLL8
      else if w ≤ 287 then .llSym
      else if 0x190 ≤ w ∧ w ≤ 0x1FF then .fixedLL9
      else .color
  else if w < 16 then .cmd
  else if w < 19 then .clSym
  else if w < 32 then .dSym
  else if (0x30 ≤ w ∧ w ≤ 0x3F) ∨ (0xC0 ≤ w ∧ w ≤ 0xC7) then .fixedLL8
  else if w < 0x40 then .filterType
  else if w < 0x80 then .dispose .check
  else .blend .check

/-- The instruction the decoder reads from a bare word of the opcode table, in the code space `tableFormat` gives. -/
def decodeTableWord (nbits w : Nat) : Option Instr :=
  match decode (tableFormat nbits w) w with
  | .ok i => some i
  | .error _ => none

end Sys2Proof
end

