-- ==== Sys2Proof/Machine/State.lean ====
section
/-! DEFINITION. Everything the spec gives APNG-CORE as plain data, and the machine right after power-on reset. -/

namespace Sys2Proof.Machine

/-- The sparse form of a byte memory: (address, byte) pairs, addresses strictly rising, no pair equal to what an
unlisted address reads as (`Mem.wf`, Ops.lean). -/
abbrev Mem := List Host.Cell

/-- The six host-visible byte memories (R47 to R52). -/
inductive MemId where
  | inp | out | canvas | snap | pal | trns
  deriving DecidableEq, Repr

/-- The byte memories. -/
structure Mems where
  /-- IN, compressed input (R47). -/
  inp : Mem
  /-- OUT, inflated and reconstructed pixels (R48). -/
  out : Mem
  /-- CANVAS, the RGBA canvas (R49, R80). -/
  canvas : Mem
  /-- SNAP, the saved rectangle (R50, R81). -/
  snap : Mem
  /-- PAL, 256 RGB entries (R51). -/
  pal : Mem
  /-- TRNS, 256 alpha bytes (R52). -/
  trns : Mem
  deriving DecidableEq, Repr

/-- The three dynamic Huffman table RAMs (R53). -/
inductive TableId where
  | tll | td | tcl
  deriving DecidableEq, Repr

/-- A table RAM: its 10-bit entries, all of them listed, and the numcodes of its last build, `n_T` (R53, R145). -/
structure TableRam where
  entries : List (BitVec 10)
  n : Nat
  deriving DecidableEq, Repr

/-- The table RAMs of R53: TLL has 576 entries, TD 64, TCL 38. -/
structure Tables where
  tll : TableRam
  td : TableRam
  tcl : TableRam
  deriving DecidableEq, Repr

/-- The fields of STATUS (R25 to R28). -/
structure Status where
  /-- BUSY, bit 0 (R25). -/
  busy : Bool
  /-- DONE, bit 1 (R26). -/
  done : Bool
  /-- ERROR, bit 2, sticky (R27). -/
  error : Bool
  /-- ERRCODE, bits [7:4], sticky (R28, R280). -/
  code : BitVec 4
  deriving DecidableEq, Repr

/-- The stored fields of the registers of R22, STATUS apart. ID and BPP are not stored: ID is constant (R23) and
BPP is derived from COLOR at every instant (R37). A reserved field has no storage and reads 0. -/
structure Regs where
  /-- CMD[3:0] OP (R24). -/
  op : BitVec 4
  /-- ERR_SITE[15:0] SITE (R29). -/
  errSite : BitVec 16
  /-- CTRL[2:1] BLEND_MODE (R31). -/
  blendMode : BitVec 2
  /-- IN_BASE (R32). -/
  inBase : Word
  /-- IN_LEN (R32). -/
  inLen : Word
  /-- OUT_SIZE (R33). -/
  outSize : Word
  /-- OUT_POS (R34). -/
  outPos : Word
  /-- BIT_POS (R35). -/
  bitPos : Word
  /-- COLOR[7:0] COLOR_TYPE (R36). -/
  colorType : BitVec 8
  /-- COLOR[15:8] BIT_DEPTH (R36). -/
  bitDepth : BitVec 8
  /-- FRAME_W (R38). -/
  frameW : Word
  /-- FRAME_H (R38). -/
  frameH : Word
  /-- FRAME_X (R39). -/
  frameX : Word
  /-- FRAME_Y (R39). -/
  frameY : Word
  /-- FRAME_OPS[7:0] DISPOSE (R40). -/
  dispose : BitVec 8
  /-- FRAME_OPS[15:8] BLEND (R40). -/
  blend : BitVec 8
  /-- FRAME_DELAY[15:0] NUM (R41). -/
  delayNum : BitVec 16
  /-- FRAME_DELAY[31:16] DEN (R41). -/
  delayDen : BitVec 16
  /-- CANVAS_W (R42). -/
  canvasW : Word
  /-- CANVAS_H (R42). -/
  canvasH : Word
  /-- TRNS_LEN[8:0] (R43). -/
  trnsLen : BitVec 9
  /-- PREV_OPS[7:0] PREV_DISPOSE (R44). -/
  prevDispose : BitVec 8
  /-- PREV_X (R44). -/
  prevX : Word
  /-- PREV_Y (R44). -/
  prevY : Word
  /-- PREV_W (R44). -/
  prevW : Word
  /-- PREV_H (R44). -/
  prevH : Word
  /-- TBL_SEL[1:0] (R45). -/
  tblSel : BitVec 2
  /-- TBL_N[8:0] (R46). -/
  tblN : BitVec 9
  deriving DecidableEq, Repr

/-- Where the engine stands in the command body: which element it reads next. `hdr`, `codeLens`, `syms` and `dist`
are the states of R184 in which an element is read (STORED, END_BLOCK and DONE read none of their own and are passed
inside one step); the others are the points of 42_zlib.md to 45_commands.md at which a code is read. -/
inductive Phase where
  /-- No command runs (R21). -/
  | idle
  /-- COLOR is matched with the format table next (R201). -/
  | format
  /-- CMF is read next (R195). -/
  | zlibCmf
  /-- FLG is read next (R195). -/
  | zlibFlg
  /-- A block header is read next (R184 HDR). -/
  | hdr
  /-- A code-length symbol is read next (R167; R184 DYNHDR). -/
  | codeLens
  /-- A literal/length symbol is read next (R171; R184 SYMS). -/
  | syms
  /-- The distance symbol after a length is read next (R171, R113). -/
  | dist
  /-- The filter-type byte of row `row` is read next (R203). -/
  | filt
  /-- CTRL.BLEND_MODE is checked next (R222). -/
  | blendMode
  /-- FRAME_OPS.DISPOSE is checked next (R222). -/
  | disposeCheck
  /-- FRAME_OPS.BLEND is checked next, and the checks after it (R222). -/
  | blendCheck
  /-- Step 1: PREV_OPS.PREV_DISPOSE is acted on next (R224). -/
  | disposeRestore
  /-- Step 2: FRAME_OPS.DISPOSE is acted on next (R227). -/
  | disposeSnap
  /-- Steps 3 and 4: FRAME_OPS.BLEND is acted on next (R228, R237). -/
  | paint
  /-- TBL_SEL selects BUILD_TABLE's RAM next (R256). -/
  | tblSel
  deriving DecidableEq, Repr

/-- The selected pair of tables of a Huffman block (R56): FLL/FD or TLL/TD. -/
inductive TablePair where
  | fixed | dynamic
  deriving DecidableEq, Repr

/-- The OVER formula (R232). -/
inductive BlendMode where
  | singleDiv | perTerm | refTrunc
  deriving DecidableEq, Repr

/-- The Huffman builder's working state (R57), with the working copy W of R144; an EMPTY slot is `none`. -/
structure Build where
  blCount : List Nat
  nextCode : List Nat
  code : List Nat
  nodesUsed : Nat
  node : Nat
  slots : List (Option Nat)
  deriving DecidableEq, Repr

/-- The engine's internal working registers (R55 to R57). The pseudocode's values are unbounded naturals (R11). -/
structure Engine where
  phase : Phase
  /-- Input bit cursor (R55). -/
  cur : Nat
  /-- Output byte cursor (R55). -/
  pos : Nat
  /-- First IN byte of the DEFLATE data (R55). -/
  inbase : Nat
  /-- Its byte length (R55). -/
  inlen : Nat
  /-- Output capacity (R55). -/
  cap : Nat
  /-- R56 -/
  bfinal : Bool
  /-- R56 -/
  btype : BitVec 2
  /-- R56 -/
  pair : TablePair
  /-- R56 -/
  hlit : Nat
  /-- R56 -/
  hdist : Nat
  /-- R56 -/
  hclen : Nat
  /-- `cl_len[0..18]` (R56). -/
  clLen : List Nat
  /-- The lengths decoded so far, `lens[0..i-1]`; its length is the index `i` of R167 (R56). -/
  lens : List Nat
  /-- The local `length` of R171, held between the length symbol and its distance. -/
  length : Nat
  /-- The local `bpp` of R253 and R254. -/
  bpp : Nat
  /-- The local `y` of R203: the row reconstructed next. -/
  row : Nat
  /-- The formula CTRL.BLEND_MODE selects (R232), as checked by R222. -/
  mode : BlendMode
  /-- R57 -/
  build : Build
  deriving DecidableEq, Repr

/-- The width of a host access, in bytes (R75, R76). -/
inductive Width where
  | b1 | b2 | b4
  deriving DecidableEq, Repr

/-- One bus operation of a host program (R126, R127). Addresses are bus addresses: `P_BASE` + offset (R70). -/
inductive BusOp where
  /-- A read of the given width. -/
  | read (w : Width) (addr : Word)
  /-- A write of the given width; a narrow write takes the low bytes of `data`. -/
  | write (w : Width) (addr : Word) (data : Word)
  /-- `WAIT`: a loop of `RD32 STATUS` that repeats while BUSY is 1 (R127). -/
  | wait
  deriving DecidableEq, Repr

/-- A host access in the queue, and how many engine elements run before it lands if a command is running: the order
in which the two agents of R20 move is data of the state (log 3). -/
structure BusReq where
  after : Nat
  op : BusOp
  deriving DecidableEq, Repr

/-- The machine. -/
structure State where
  /-- STATUS (R25 to R28). -/
  status : Status
  /-- The other registers (R22). -/
  regs : Regs
  /-- The byte memories (R47 to R52). -/
  mems : Mems
  /-- The table RAMs (R53). -/
  tables : Tables
  /-- The internal working registers (R55 to R57). -/
  engine : Engine
  /-- The host's pending accesses, oldest first (R20, R126). -/
  bus : List BusReq
  /-- What the host's last read returned. -/
  rdata : Word
  /-- The model's own counter of free values drawn so far (log 4). -/
  free : Nat
  /-- The OPEN parameters of R8 and R70, which no step changes (log 1). -/
  params : Params
  deriving DecidableEq, Repr

/-- Why the machine stops with a fault. Both are guards: no state a run reaches raises them. -/
inductive Fault where
  /-- Raised by `engineStep` when a running command's cursors or geometry lie outside a memory, which R88 says never
  happens. Safe. -/
  | engineOutOfBounds
  /-- Raised by `engineStep` for a word its code space assigns nothing (a symbol above the alphabet), which R149 never
  decodes. Safe. -/
  | undecodable
  deriving DecidableEq, Repr

/-- Why a step has no meaning. -/
inductive Refusal where
  /-- Raised by an arm of `exec` whose instruction has no meaning yet. Safe. -/
  | notModelled (mnemonic : String)
  /-- Raised by a host access to an offset no window backs (R74, P_UNMAPPED). Safe. -/
  | unmapped
  /-- Raised by a host access whose width or alignment its window does not accept (R75, R76, P_UNMAPPED). Safe. -/
  | badAccess
  /-- Raised by a host access while BUSY = 1 that R320 does not allow (P_BUSY_ACCESS). Safe. -/
  | busyAccess
  deriving DecidableEq, Repr

/-- STATUS after either reset (R22, R310). -/
def Status.reset : Status := { busy := false, done := false, error := false, code := 0 }

/-- Every stored register field after either reset (R22, R60). -/
def Regs.reset : Regs :=
  { op := 0, errSite := 0, blendMode := 0, inBase := 0, inLen := 0, outSize := 0, outPos := 0, bitPos := 0,
    colorType := 0, bitDepth := 0, frameW := 0, frameH := 0, frameX := 0, frameY := 0, dispose := 0, blend := 0,
    delayNum := 0, delayDen := 0, canvasW := 0, canvasH := 0, trnsLen := 0,
    prevDispose := 0, prevX := 0, prevY := 0, prevW := 0, prevH := 0, tblSel := 0, tblN := 0 }

/-- The builder's working state after reset: unspecified by R60. DESIGN CHOICE (log 6), zero. -/
def Build.reset : Build := { blCount := [], nextCode := [], code := [], nodesUsed := 0, node := 0, slots := [] }

/-- The working registers after reset: unspecified by R60, but for being IDLE (R310). DESIGN CHOICE (log 6), zero. -/
def Engine.reset : Engine :=
  { phase := .idle, cur := 0, pos := 0, inbase := 0, inlen := 0, cap := 0, bfinal := false, btype := 0,
    pair := .fixed, hlit := 0, hdist := 0, hclen := 0, clLen := [], lens := [], length := 0, bpp := 0, row := 0,
    mode := .singleDiv, build := Build.reset }

/-- The table RAMs after power-on: unspecified by R310. DESIGN CHOICE (log 5), zero. -/
def Tables.powerOn : Tables :=
  { tll := { entries := List.replicate 576 0, n := 0 },
    td := { entries := List.replicate 64 0, n := 0 },
    tcl := { entries := List.replicate 38 0, n := 0 } }

/-- The byte memories after power-on: nothing listed. What an unlisted byte reads as is `Mem.unlisted` (log 5). -/
def Mems.powerOn : Mems := { inp := [], out := [], canvas := [], snap := [], pal := [], trns := [] }

/-- The machine right after power-on reset (R310). -/
def State.reset : State :=
  { status := Status.reset, regs := Regs.reset, mems := Mems.powerOn, tables := Tables.powerOn,
    engine := Engine.reset, bus := [], rdata := 0, free := 0, params := Params.chosen }

/-! ### Field updates -/

/-- Replace STATUS. -/
def State.setStatus (s : State) (x : Status) : State := { s with status := x }
/-- Replace the registers. -/
def State.setRegs (s : State) (x : Regs) : State := { s with regs := x }
/-- Replace the byte memories. -/
def State.setMems (s : State) (x : Mems) : State := { s with mems := x }
/-- Replace the table RAMs. -/
def State.setTables (s : State) (x : Tables) : State := { s with tables := x }
/-- Replace the working registers. -/
def State.setEngine (s : State) (x : Engine) : State := { s with engine := x }
/-- Replace the host's queue. -/
def State.setBus (s : State) (x : List BusReq) : State := { s with bus := x }
/-- Replace the host's read data. -/
def State.setRdata (s : State) (x : Word) : State := { s with rdata := x }
/-- Replace the counter of free values. -/
def State.setFree (s : State) (x : Nat) : State := { s with free := x }

end Sys2Proof.Machine
end

