-- ==== Sys2Proof/Machine/Flags.lean ====
section
/-! DEFINITION. The flags: error codes, and every change of STATUS (R25 to R28, R59, R250, R283). -/

namespace Sys2Proof.Machine

/-- The error taxonomy (R280). APNG-CORE raises only `nomem`, `malformed`, `unformat` and `param`. -/
inductive ErrCode where
  | nomem | notFound | notPng | malformed | unsupported | uninterlaced | unformat | param | done
  deriving DecidableEq, Repr

/-- The number of an error code (R280). -/
def ErrCode.num : ErrCode → BitVec 4
  | .nomem => 1
  | .notFound => 2
  | .notPng => 3
  | .malformed => 4
  | .unsupported => 5
  | .uninterlaced => 6
  | .unformat => 7
  | .param => 8
  | .done => 9

/-- `E(site)` of R283, and the table RAMs a failing build leaves unspecified (R145, R287). -/
structure Err where
  code : ErrCode
  site : BitVec 16
  tables : List TableId
  deriving DecidableEq, Repr

/-- `MALFORMED(site)`. -/
def malformed (site : BitVec 16) : Err := { code := .malformed, site := site, tables := [] }
/-- `PARAM(site)`. -/
def param (site : BitVec 16) : Err := { code := .param, site := site, tables := [] }
/-- `NOMEM(site)`. -/
def nomem (site : BitVec 16) : Err := { code := .nomem, site := site, tables := [] }
/-- `UNFORMAT(site)`. -/
def unformat (site : BitVec 16) : Err := { code := .unformat, site := site, tables := [] }

/-- R250: a command starts. -/
def Status.started (st : Status) : Status := { st with done := false, busy := true }

/-- R250: a command ends normally. -/
def Status.finished (st : Status) : Status := { st with done := true, busy := false }

/-- R283: a command ends in the error `e`. -/
def Status.raised (e : Err) : Status := { busy := false, done := false, error := true, code := e.code.num }

/-- The STATUS word: BUSY, DONE, ERROR at bits 0 to 2, ERRCODE at bits [7:4], the rest reserved (R22). -/
def Status.word (st : Status) : Word :=
  BitVec.ofNat 32 (st.busy.toNat + 2 * st.done.toNat + 4 * st.error.toNat + 16 * st.code.toNat)

end Sys2Proof.Machine
end

