-- ==== Sys2Proof/Machine/Operands.lean ====
section
/-! DEFINITION. The operand tables and the derived quantities: base and extra-bit tables, orders and lengths of
30_encoding.md, the format table and row sizes of 43_filter.md, and the geometry of 44_compositor.md. -/

namespace Sys2Proof.Machine

/-! ### Stream operand tables -/

/-- R110: LBASE for symbols 257 to 285. -/
def lbaseTable : List Nat :=
  [3, 4, 5, 6, 7, 8, 9, 10, 11, 13, 15, 17, 19, 23, 27, 31, 35, 43, 51, 59, 67, 83, 99, 115, 131, 163, 195, 227, 258]

/-- R110: LEXTRA for symbols 257 to 285. -/
def lextraTable : List Nat :=
  [0, 0, 0, 0, 0, 0, 0, 0, 1, 1, 1, 1, 2, 2, 2, 2, 3, 3, 3, 3, 4, 4, 4, 4, 5, 5, 5, 5, 0]

/-- R112: DBASE for symbols 0 to 29. -/
def dbaseTable : List Nat :=
  [1, 2, 3, 4, 5, 7, 9, 13, 17, 25, 33, 49, 65, 97, 129, 193, 257, 385, 513, 769, 1025, 1537, 2049, 3073, 4097, 6145,
   8193, 12289, 16385, 24577]

/-- R112: DEXTRA for symbols 0 to 29. -/
def dextraTable : List Nat :=
  [0, 0, 0, 0, 1, 1, 2, 2, 3, 3, 4, 4, 5, 5, 6, 6, 7, 7, 8, 8, 9, 9, 10, 10, 11, 11, 12, 12, 13, 13]

/-- R110: `LBASE[s]`. -/
def lbase (s : Nat) : Nat := lbaseTable.getD (s - 257) 0
/-- R110: `LEXTRA[s]`. -/
def lextra (s : Nat) : Nat := lextraTable.getD (s - 257) 0
/-- R112: `DBASE[d]`. -/
def dbase (d : Nat) : Nat := dbaseTable.getD d 0
/-- R112: `DEXTRA[d]`. -/
def dextra (d : Nat) : Nat := dextraTable.getD d 0

/-- R107: the order in which the code-length-code lengths are sent. -/
def clOrder : List Nat := [16, 17, 18, 0, 8, 7, 9, 6, 10, 5, 11, 4, 12, 3, 13, 2, 14, 1, 15]

/-- R114: FIXED_LL_LEN. -/
def fixedLLLen (s : Nat) : Nat := if s ≤ 143 then 8 else if s ≤ 255 then 9 else if s ≤ 279 then 7 else 8

/-- R114: FIXED_LL_LEN as an array of 288 lengths. -/
def fixedLLLens : List Nat := (List.range 288).map fixedLLLen

/-- R114: FIXED_D_LEN as an array of 32 lengths. -/
def fixedDLens : List Nat := List.replicate 32 5

/-- The alphabet size of a table RAM: 288 for TLL, 32 for TD, 19 for TCL (R46, R256). -/
def TableId.nmax : TableId → Nat
  | .tll => 288
  | .td => 32
  | .tcl => 19

/-! ### Pixel formats and row sizes -/

/-- R200: bits per pixel of a colour type and a bit depth; `none` is "unmatched". -/
def formatBpp (ct d : Nat) : Option Nat :=
  match ct, d with
  | 0, 1 => some 1
  | 0, 2 => some 2
  | 0, 4 => some 4
  | 0, 8 => some 8
  | 0, 16 => some 16
  | 2, 8 => some 24
  | 2, 16 => some 48
  | 3, 1 => some 1
  | 3, 2 => some 2
  | 3, 4 => some 4
  | 3, 8 => some 8
  | 4, 8 => some 16
  | 4, 16 => some 32
  | 6, 8 => some 32
  | 6, 16 => some 64
  | _, _ => none

/-- R202: `bw`, the source's bytewidth. -/
def byteWidth (bpp : Nat) : Nat := ceilDiv bpp 8

/-- R202: `lb`, the source's linebytes. -/
def lineBytes (w bpp : Nat) : Nat := ceilDiv (w * bpp) 8

/-- R202: `S`, the expected inflated size. -/
def expectedSize (w h bpp : Nat) : Nat := (lineBytes w bpp + 1) * h

/-- R210: FinalSize. -/
def finalSize (w h bpp : Nat) : Nat := ceilDiv (w * h * bpp) 8

/-! ### Compositor operands -/

/-- R229: TRNS_LEN's effective length. -/
def effectiveTrnsLen (n : Nat) : Nat := min n 256

/-- R232: Blend, for source value `s`, source alpha `a` and canvas value `t`. -/
def blendChannel (m : BlendMode) (s a t : Nat) : Nat :=
  match m with
  | .singleDiv => (s * a + t * (255 - a)) / 255
  | .perTerm => s * a / 255 + t * (255 - a) / 255
  | .refTrunc => s * (a / 255) + t * (1 - a / 255)

/-- A rectangle of the canvas, in pixels. -/
structure Rect where
  x : Nat
  y : Nat
  w : Nat
  h : Nat
  deriving DecidableEq, Repr

/-- Whether a pixel lies in the rectangle. -/
def Rect.has (r : Rect) (x y : Nat) : Bool := r.x ≤ x && x < r.x + r.w && r.y ≤ y && y < r.y + r.h

/-- Whether the rectangle lies in a canvas of `cw` by `ch` pixels (R222). -/
def Rect.within (r : Rect) (cw ch : Nat) : Bool := r.x + r.w ≤ cw && r.y + r.h ≤ ch

/-- R80 and R81: byte `c` of pixel (x, y) in a row-major RGBA buffer of width `w`. -/
def pixelByte (w x y c : Nat) : Nat := 4 * (y * w + x) + c

/-- The x of the pixel that byte `a` of an RGBA buffer of width `w` belongs to (R80). -/
def pixelX (w a : Nat) : Nat := a / 4 % w
/-- The y of the pixel that byte `a` of an RGBA buffer of width `w` belongs to (R80). -/
def pixelY (w a : Nat) : Nat := a / 4 / w
/-- The channel of byte `a` of an RGBA buffer: 0 R, 1 G, 2 B, 3 A (R80). -/
def pixelChannel (a : Nat) : Nat := a % 4

/-- The rectangle of the current frame (R38, R39). -/
def Regs.frameRect (r : Regs) : Rect :=
  { x := r.frameX.toNat, y := r.frameY.toNat, w := r.frameW.toNat, h := r.frameH.toNat }

/-- The rectangle of the previous frame (R44). -/
def Regs.prevRect (r : Regs) : Rect :=
  { x := r.prevX.toNat, y := r.prevY.toNat, w := r.prevW.toNat, h := r.prevH.toNat }

/-- R37 and R200: FormatBpp of the COLOR register. -/
def Regs.bpp? (r : Regs) : Option Nat := formatBpp r.colorType.toNat r.bitDepth.toNat

/-- R240, a rule for the host: the display duration of a frame in seconds. -/
def displaySeconds (num den : Nat) : Rat := if den = 0 then 1 / 10 else (num : Rat) / (den : Rat)

end Sys2Proof.Machine
end

