-- ==== Sys2Proof/Machine/Ops.lean ====
section
/-! DEFINITION. The named operations over memories, tables and registers; ending a command, raising an error (the one
exception of APNG-CORE, R283) and the reset that leaves the ERROR state (R311). -/

namespace Sys2Proof.Machine

/-! ### Byte memories -/

/-- What an unlisted byte of a memory reads as. R310 leaves power-on contents unspecified. DESIGN CHOICE (log 5),
unsafe for a claim about a byte nothing has written. -/
def Mem.unlisted : Byte := 0

/-- The canonical form: addresses strictly rising, and no listed byte equal to what an unlisted one reads as. -/
abbrev Mem.wf (m : Mem) : Prop := m.Pairwise (fun c d => c.1 < d.1) ∧ ∀ c ∈ m, c.2 ≠ Mem.unlisted

/-- The byte at an address. -/
def Mem.read : Mem → Nat → Byte
  | [], _ => Mem.unlisted
  | c :: m, a => if c.1 = a then c.2 else Mem.read m a

/-- One cell of a rewritten range, left out when it reads as an unlisted byte does. -/
def Mem.cell (a : Nat) (b : Byte) : Option Host.Cell := if b = Mem.unlisted then none else some (a, b)

/-- Rewrite the `n` bytes from `lo`: byte `lo + k` becomes `f k` of its old value. -/
def Mem.fill (lo n : Nat) (f : Nat → Byte → Byte) (m : Mem) : Mem :=
  m.filter (fun c => decide (c.1 < lo)) ++
  (List.range n).filterMap (fun k => Mem.cell (lo + k) (f k (Mem.read m (lo + k)))) ++
  m.filter (fun c => decide (lo + n ≤ c.1))

/-- Write one byte. -/
def Mem.write (a : Nat) (b : Byte) (m : Mem) : Mem := Mem.fill a 1 (fun _ _ => b) m

/-- R84: buffer bit `b` of a byte memory, most significant bit of each byte first. -/
def Mem.bitMsb (m : Mem) (b : Nat) : Nat := ((Mem.read m (b / 8)).getLsbD (7 - b % 8)).toNat

/-- A byte memory by name. -/
def Mems.get (ms : Mems) : MemId → Mem
  | .inp => ms.inp
  | .out => ms.out
  | .canvas => ms.canvas
  | .snap => ms.snap
  | .pal => ms.pal
  | .trns => ms.trns

/-- Replace a byte memory by name. -/
def Mems.set (ms : Mems) (id : MemId) (m : Mem) : Mems :=
  match id with
  | .inp => { ms with inp := m }
  | .out => { ms with out := m }
  | .canvas => { ms with canvas := m }
  | .snap => { ms with snap := m }
  | .pal => { ms with pal := m }
  | .trns => { ms with trns := m }

/-- The backed bytes of a memory (R8, R51, R52, R70). -/
def capOf (p : Params) : MemId → Nat
  | .inp => p.inCap
  | .out => p.outCap
  | .canvas => p.canvasCap
  | .snap => p.snapCap
  | .pal => 768
  | .trns => 256

/-- `M[a]` (R12). -/
def State.rd (s : State) (id : MemId) (a : Nat) : Byte := Mem.read (s.mems.get id) a

/-- Replace one memory. -/
def State.setMem (s : State) (id : MemId) (m : Mem) : State := s.setMems (s.mems.set id m)

/-! ### Table RAMs -/

/-- A table RAM by name. -/
def Tables.get (t : Tables) : TableId → TableRam
  | .tll => t.tll
  | .td => t.td
  | .tcl => t.tcl

/-- Replace a table RAM by name. -/
def Tables.set (t : Tables) (id : TableId) (r : TableRam) : Tables :=
  match id with
  | .tll => { t with tll := r }
  | .td => { t with td := r }
  | .tcl => { t with tcl := r }

/-- R145: write entries 0 to 2n − 1, keep the rest, and set `n_T`. -/
def TableRam.load (r : TableRam) (n : Nat) (entries : List (BitVec 10)) : TableRam :=
  { entries := entries ++ r.entries.drop entries.length, n := n }

/-! ### The engine -/

/-- Move the engine to the point at which it reads its next element. -/
def State.goto (s : State) (p : Phase) : State := s.setEngine { s.engine with phase := p }

/-- The command whose OP value is running: CMD.OP, which no host access changes while BUSY = 1 (R321). -/
def State.runningOp (s : State) : Nat := s.regs.op.toNat

/-- R250: the command ends normally. -/
def State.finish (s : State) : State := (s.goto .idle).setStatus s.status.finished

/-! ### Unspecified contents -/

/-- Leave the bytes of a memory below `n` that `p` picks unspecified: each becomes a free value of its own. -/
def State.freeMem (s : State) (id : MemId) (n : Nat) (p : Nat → Bool) : State :=
  (s.setMem id (Mem.fill 0 n (fun a old => if p a then Config.freeByte (s.free + a) else old) (s.mems.get id))).setFree
    (s.free + n)

/-- Leave a table RAM's contents unspecified. Its `n_T`, which no rule reads, is kept. -/
def State.freeTable (s : State) (id : TableId) : State :=
  let r := s.tables.get id
  (s.setTables (s.tables.set id
    { r with entries := (List.range r.entries.length).map (fun e => Config.freeEntry (s.free + e)) })).setFree
    (s.free + r.entries.length)

/-- Leave several table RAMs' contents unspecified. -/
def State.freeTables (s : State) (ids : List TableId) : State := ids.foldl State.freeTable s

/-- Whether an OP value runs the Inflate Engine, and so writes OUT_POS and BIT_POS (R260). -/
def inflates (op : Nat) : Bool := op == 1 || op == 2 || op == 4

/-- Whether an OP value runs the Filter Reconstructor, and so writes OUT_SIZE (R260). -/
def defilters (op : Nat) : Bool := op == 3 || op == 4

/-- How much of OUT the running command may write (R260, R287): `cap` for the inflate commands, S for DEFILTER and
DECODE_FRAME, none otherwise; never more than OUT has. -/
def State.outFootprint (s : State) : Nat :=
  if defilters s.runningOp then
    match s.regs.bpp? with
    | some bpp => min (expectedSize s.regs.frameW.toNat s.regs.frameH.toNat bpp) s.params.outCap
    | none => 0
  else if inflates s.runningOp then min s.regs.outSize.toNat s.params.outCap
  else 0

/-- R287: OUT below the footprint is unspecified after an error. -/
def State.freeOut (s : State) : State := s.freeMem .out s.outFootprint (fun _ => true)

/-- R34, R35, R287: OUT_POS, BIT_POS and OUT_SIZE are unspecified after an error of a command that writes them. -/
def State.freeRegs (s : State) : State :=
  let r := s.regs
  let r := if inflates s.runningOp then
      { r with outPos := Config.freeWord s.free, bitPos := Config.freeWord (s.free + 1) } else r
  let r := if defilters s.runningOp then { r with outSize := Config.freeWord (s.free + 2) } else r
  (s.setRegs r).setFree (s.free + 3)

/-- The table RAMs an error leaves unspecified: the one being built, or those of the dynamic header it ends (R287). -/
def State.unspecifiedTables (s : State) (e : Err) : List TableId :=
  if s.engine.phase = .codeLens then .tcl :: e.tables else e.tables

/-! ### Raising an error, and leaving the ERROR state -/

/-- R283: `raise E(site)`. The command stops here; ERROR, ERRCODE and ERR_SITE are set, DONE and BUSY cleared, and what
R287 calls unspecified is free. There is no vector, no handler and no saved program counter (R290). -/
def raise (e : Err) (s : State) : State :=
  let s' := (s.freeTables (s.unspecifiedTables e)).freeOut.freeRegs
  ((s'.setRegs { s'.regs with errSite := e.site }).goto .idle).setStatus (Status.raised e)

/-- The effect of one element or code: its body's result, or the error the body raised, with the working registers as they
stood before the body (log 24). -/
def settle (s : State) (body : Except Err State) : Host.Outcome State Fault Refusal :=
  match body with
  | .ok t => .next t
  | .error e => .next (raise e s)

/-- R311 step 1: the memories an abandoned command may write (R260) are left unspecified. -/
def State.abandon (s : State) : State :=
  let r := s.regs
  let op := s.runningOp
  let s := s.freeOut
  let s := if inflates op then s.freeTables [.tcl, .tll, .td] else s
  if op = 5 then
    let inRects (a : Nat) : Bool :=
      r.frameRect.has (pixelX r.canvasW.toNat a) (pixelY r.canvasW.toNat a) ||
      r.prevRect.has (pixelX r.canvasW.toNat a) (pixelY r.canvasW.toNat a)
    let s := s.freeMem .canvas (min (4 * r.canvasW.toNat * r.canvasH.toNat) s.params.canvasCap) inRects
    s.freeMem .snap (min (4 * r.frameW.toNat * r.frameH.toNat) s.params.snapCap) (fun _ => true)
  else if op = 6 then
    match r.tblSel.toNat with
    | 0 => s.freeTable .tll
    | 1 => s.freeTable .td
    | 2 => s.freeTable .tcl
    | _ => s
  else s

/-- R311: soft reset, the only way out of the ERROR state (R291). Registers take their reset values; memories and
table RAMs are kept, except those of a command it abandons. -/
def softReset (s : State) : State :=
  let s := if s.status.busy then s.abandon else s
  ((s.setRegs Regs.reset).setStatus Status.reset).setEngine Engine.reset

end Sys2Proof.Machine
end

