-- ==== Sys2Proof/Machine/Stream.lean ====
section
/-! DEFINITION. The Bit Reader and the symbol decoder (40_huffman.md): what one element is read with. -/

namespace Sys2Proof.Machine

/-- R77: stream bit `k`, bit `k mod 8` of byte `inbase + k div 8` of IN. -/
def State.streamBit (s : State) (k : Nat) : Nat :=
  ((s.rd .inp (s.engine.inbase + k / 8)).getLsbD (k % 8)).toNat

/-- R140: read one bit at `cur`; the bit and the cursor after it. -/
def State.bitRead (s : State) (site : BitVec 16) (cur : Nat) : Except Err (Nat × Nat) :=
  if 8 * s.engine.inlen ≤ cur then .error (malformed site) else .ok (s.streamBit cur, cur + 1)

/-- R141: read a `w`-bit field at `cur`, least significant bit first. -/
def State.readBits (s : State) : (w cur : Nat) → Except Err (Nat × Nat)
  | 0, cur => .ok (0, cur)
  | w + 1, cur =>
    match s.bitRead 0x0201 cur with
    | .error e => .error e
    | .ok (b, cur) =>
      match s.readBits w cur with
      | .error e => .error e
      | .ok (v, cur) => .ok (b + 2 * v, cur)

/-- R149, the walk: `left` bits of input remain, so that running out of them is the recursion's end. -/
def walkTable (bit : Nat → Nat) (table : List (BitVec 10)) (n : Nat) :
    (left cur node : Nat) → Except Err (Nat × Nat)
  | 0, _, _ => .error (malformed 0x0601)
  | left + 1, cur, node =>
    let e := (table.getD (2 * node + bit cur) 0).toNat
    if e < n then .ok (e, cur + 1)
    else if n < e - n + 2 then .error (malformed 0x0602)
    else walkTable bit table n left (cur + 1) (e - n)

/-- R149: decode one symbol of the table at `cur`; the symbol and the cursor after it. -/
def State.decodeSymbol (s : State) (table : List (BitVec 10)) (n cur : Nat) : Except Err (Nat × Nat) :=
  walkTable s.streamBit table n (8 * s.engine.inlen - cur) cur 0

end Sys2Proof.Machine
end

