-- ==== Sys2Proof/Machine/Huffman.lean ====
section
/-! DEFINITION. The Huffman table builder (R144 to R148) and the constant tables FLL and FD (R152). -/

namespace Sys2Proof.Machine

/-! ### CanonicalCodes (R146) -/

/-- R146: `bl_count[L]`, the number of symbols of length `L`; zero lengths are not counted. -/
def countLengths (lens : List Nat) : List Nat :=
  (List.range 16).map (fun l => if l = 0 then 0 else lens.countP (fun x => x == l))

/-- R146: the first code value of each length, the running sum of the counts at shorter lengths, left-shifted. -/
def firstCode (bl : List Nat) : Nat → Nat
  | 0 => 0
  | l + 1 => (firstCode bl l + bl.getD l 0) * 2

/-- R146: `next_code[0..15]` before any code is given out (index 0 is not used). -/
def firstCodes (bl : List Nat) : List Nat := (List.range 16).map (firstCode bl)

/-- R146: consecutive code values per symbol in symbol order within each length; the codes, and `next_code` after. -/
def assignCodes : (lens next : List Nat) → List Nat × List Nat
  | [], next => ([], next)
  | l :: lens, next =>
    if l = 0 then
      let r := assignCodes lens next
      (0 :: r.1, r.2)
    else
      let c := next.getD l 0
      let r := assignCodes lens (next.set l (c + 1))
      (c :: r.1, r.2)

/-! ### BuildTable (R144) -/

/-- R144: insert the code of symbol `sym`, its low `k` bits still to go, most significant first, from `node`. -/
def insertCode (n sym code : Nat) : (k : Nat) → Build → Except Err Build
  | 0, b => .ok b
  | k + 1, b =>
    let slot := 2 * b.node + code / 2 ^ k % 2
    match b.slots.getD slot none with
    | none =>
      if k = 0 then .ok { b with slots := b.slots.set slot (some sym) }
      else if n < b.nodesUsed + 2 then .error (malformed 0x0501)
      else
        insertCode n sym code k
          { b with slots := b.slots.set slot (some (n + b.nodesUsed)), node := b.nodesUsed,
                   nodesUsed := b.nodesUsed + 1 }
    | some e =>
      if k = 0 then .error (malformed 0x0502)
      else if e < n then .error (malformed 0x0502)
      else insertCode n sym code k { b with node := e - n }

/-- R144: insert every symbol with a nonzero length, in symbol order from `sym`. -/
def insertCodes (n : Nat) : (sym : Nat) → (lens codes : List Nat) → Build → Except Err Build
  | sym, l :: lens, c :: codes, b =>
    match insertCode n sym c l { b with node := 0 } with
    | .error e => .error e
    | .ok b => insertCodes n (sym + 1) lens codes b
  | _, _, _, b => .ok b

/-- R150: an EMPTY slot is stored as 0. -/
def entryOf (slot : Option Nat) : BitVec 10 := BitVec.ofNat 10 (slot.getD 0)

/-- R144: the builder's state before the first symbol. -/
def Build.start (lens : List Nat) : Build :=
  { blCount := countLengths lens, nextCode := (assignCodes lens (firstCodes (countLengths lens))).2,
    code := (assignCodes lens (firstCodes (countLengths lens))).1, nodesUsed := 1, node := 0,
    slots := List.replicate (2 * lens.length) none }

/-- R144: `BuildTable(lens, n)` with `n` the number of lengths: the 2n entries, and the builder's final state. -/
def buildTable (lens : List Nat) : Except Err (List (BitVec 10) × Build) :=
  match insertCodes lens.length 0 lens (Build.start lens).code (Build.start lens) with
  | .error e => .error e
  | .ok b => .ok (b.slots.map entryOf, b)

/-- R145: build into a table RAM, which is written only after the whole build has succeeded. A failing build leaves
that RAM, and those in `before` (built under the same header), unspecified. -/
def buildInto (id : TableId) (before : List TableId) (lens : List Nat) (s : State) : Except Err State :=
  match buildTable lens with
  | .error e => .error { e with tables := id :: before }
  | .ok (entries, b) =>
    .ok ((s.setTables (s.tables.set id ((s.tables.get id).load lens.length entries))).setEngine
      { s.engine with build := b })

/-! ### The constant tables (R54, R152) -/

/-- FLL: BuildTable(FIXED_LL_LEN, 288), 576 entries (R152). -/
def fll : List (BitVec 10) :=
  [289, 370, 290, 307, 546, 291, 561, 292, 293, 300, 294, 297, 295, 296, 0, 1, 2, 3, 298, 299, 4, 5, 6, 7,
   301, 304, 302, 303, 8, 9, 10, 11, 305, 306, 12, 13, 14, 15, 308, 339, 309, 324, 310, 317, 311, 314, 312, 313,
   16, 17, 18, 19, 315, 316, 20, 21, 22, 23, 318, 321, 319, 320, 24, 25, 26, 27, 322, 323, 28, 29, 30, 31,
   325, 332, 326, 329, 327, 328, 32, 33, 34, 35, 330, 331, 36, 37, 38, 39, 333, 336, 334, 335, 40, 41, 42, 43] ++
  [337, 338, 44, 45, 46, 47, 340, 355, 341, 348, 342, 345, 343, 344, 48, 49, 50, 51, 346, 347, 52, 53, 54, 55,
   349, 352, 350, 351, 56, 57, 58, 59, 353, 354, 60, 61, 62, 63, 356, 363, 357, 360, 358, 359, 64, 65, 66, 67,
   361, 362, 68, 69, 70, 71, 364, 367, 365, 366, 72, 73, 74, 75, 368, 369, 76, 77, 78, 79, 371, 434, 372, 403,
   373, 388, 374, 381, 375, 378, 376, 377, 80, 81, 82, 83, 379, 380, 84, 85, 86, 87, 382, 385, 383, 384, 88, 89] ++
  [90, 91, 386, 387, 92, 93, 94, 95, 389, 396, 390, 393, 391, 392, 96, 97, 98, 99, 394, 395, 100, 101, 102, 103,
   397, 400, 398, 399, 104, 105, 106, 107, 401, 402, 108, 109, 110, 111, 404, 419, 405, 412, 406, 409, 407, 408, 112, 113,
   114, 115, 410, 411, 116, 117, 118, 119, 413, 416, 414, 415, 120, 121, 122, 123, 417, 418, 124, 125, 126, 127, 420, 427,
   421, 424, 422, 423, 128, 129, 130, 131, 425, 426, 132, 133, 134, 135, 428, 431, 429, 430, 136, 137, 138, 139, 432, 433] ++
  [140, 141, 142, 143, 435, 483, 436, 452, 568, 437, 438, 445, 439, 442, 440, 441, 144, 145, 146, 147, 443, 444, 148, 149,
   150, 151, 446, 449, 447, 448, 152, 153, 154, 155, 450, 451, 156, 157, 158, 159, 453, 468, 454, 461, 455, 458, 456, 457,
   160, 161, 162, 163, 459, 460, 164, 165, 166, 167, 462, 465, 463, 464, 168, 169, 170, 171, 466, 467, 172, 173, 174, 175,
   469, 476, 470, 473, 471, 472, 176, 177, 178, 179, 474, 475, 180, 181, 182, 183, 477, 480, 478, 479, 184, 185, 186, 187] ++
  [481, 482, 188, 189, 190, 191, 484, 515, 485, 500, 486, 493, 487, 490, 488, 489, 192, 193, 194, 195, 491, 492, 196, 197,
   198, 199, 494, 497, 495, 496, 200, 201, 202, 203, 498, 499, 204, 205, 206, 207, 501, 508, 502, 505, 503, 504, 208, 209,
   210, 211, 506, 507, 212, 213, 214, 215, 509, 512, 510, 511, 216, 217, 218, 219, 513, 514, 220, 221, 222, 223, 516, 531,
   517, 524, 518, 521, 519, 520, 224, 225, 226, 227, 522, 523, 228, 229, 230, 231, 525, 528, 526, 527, 232, 233, 234, 235] ++
  [529, 530, 236, 237, 238, 239, 532, 539, 533, 536, 534, 535, 240, 241, 242, 243, 537, 538, 244, 245, 246, 247, 540, 543,
   541, 542, 248, 249, 250, 251, 544, 545, 252, 253, 254, 255, 547, 554, 548, 551, 549, 550, 256, 257, 258, 259, 552, 553,
   260, 261, 262, 263, 555, 558, 556, 557, 264, 265, 266, 267, 559, 560, 268, 269, 270, 271, 562, 565, 563, 564, 272, 273,
   274, 275, 566, 567, 276, 277, 278, 279, 569, 572, 570, 571, 280, 281, 282, 283, 573, 574, 284, 285, 286, 287, 0, 0]

/-- FD: BuildTable(FIXED_D_LEN, 32), 64 entries (R152). -/
def fd : List (BitVec 10) :=
  [33, 48, 34, 41, 35, 38, 36, 37, 0, 1, 2, 3, 39, 40, 4, 5, 6, 7, 42, 45, 43, 44, 8, 9,
   10, 11, 46, 47, 12, 13, 14, 15, 49, 56, 50, 53, 51, 52, 16, 17, 18, 19, 54, 55, 20, 21, 22, 23,
   57, 60, 58, 59, 24, 25, 26, 27, 61, 62, 28, 29, 30, 31, 0, 0]

/-- The literal/length table of a Huffman block: FLL or TLL (R165, R160). -/
def State.llTable (s : State) : List (BitVec 10) :=
  match s.engine.pair with
  | .fixed => fll
  | .dynamic => s.tables.tll.entries

/-- The distance table of a Huffman block: FD or TD (R165, R160). -/
def State.distTable (s : State) : List (BitVec 10) :=
  match s.engine.pair with
  | .fixed => fd
  | .dynamic => s.tables.td.entries

end Sys2Proof.Machine
end

