-- ==== Sys2Proof/Machine/Command.lean ====
section
/-! DEFINITION. The command words (45_commands.md): starting a command, its prechecks, and the commands that end at
once. A command's body goes on element by element: `step` reads and runs the elements until BUSY is 0. -/

namespace Sys2Proof.Machine

/-- R250: a write of `op` to CMD. While BUSY it is ignored (R321); while ERROR it only stores OP (R261); otherwise
the command starts and runs `body`, its prechecks and whatever it does before its first element. -/
def startCommand (op : BitVec 4) (body : State → Except Err State) (s : State) : Host.Outcome State Fault Refusal :=
  if s.status.busy then .next s
  else
    let s := s.setRegs { s.regs with op := op }
    if s.status.error then .next s
    else
      let s := s.setStatus s.status.started
      settle s (body s)

/-- R263: CheckIn. -/
def checkIn (s : State) : Except Err Unit :=
  if s.params.inCap < s.regs.inBase.toNat + s.regs.inLen.toNat then .error (param 0x0A01) else .ok ()

/-- R251 and R252: CheckIn, then the requested output buffer against OUT. -/
def checkInflate (s : State) : Except Err Unit :=
  match checkIn s with
  | .error e => .error e
  | .ok () => if s.params.outCap < s.regs.outSize.toNat then .error (nomem 0x0A02) else .ok ()

/-- R160: an Inflate starts on IN[inbase .. inbase + inlen − 1]; `cap` is already set. -/
def startInflate (inbase inlen : Nat) (s : State) : State :=
  s.setEngine { s.engine with phase := .hdr, cur := 0, pos := 0, inbase := inbase, inlen := inlen }

/-- R259: NOP stores OP = 0 and does nothing else, in every state but BUSY (R321). -/
def execNop (s : State) : Host.Outcome State Fault Refusal :=
  if s.status.busy then .next s else .next (s.setRegs { s.regs with op := 0 })

/-- R251: INFLATE_ZLIB. -/
def bodyInflateZlib (s : State) : Except Err State :=
  match checkInflate s with
  | .error e => .error e
  | .ok () => .ok (s.setEngine { s.engine with phase := .zlibCmf, cap := s.regs.outSize.toNat })

/-- R251 -/
def execInflateZlib (s : State) : Host.Outcome State Fault Refusal := startCommand 1 bodyInflateZlib s

/-- R252: INFLATE_RAW. -/
def bodyInflateRaw (s : State) : Except Err State :=
  match checkInflate s with
  | .error e => .error e
  | .ok () =>
    .ok (startInflate s.regs.inBase.toNat s.regs.inLen.toNat
      (s.setEngine { s.engine with cap := s.regs.outSize.toNat }))

/-- R252 -/
def execInflateRaw (s : State) : Host.Outcome State Fault Refusal := startCommand 2 bodyInflateRaw s

/-- R253: DEFILTER matches COLOR first. -/
def execDefilter (s : State) : Host.Outcome State Fault Refusal := startCommand 3 (fun s => .ok (s.goto .format)) s

/-- R254: DECODE_FRAME runs CheckIn, then matches COLOR. -/
def bodyDecodeFrame (s : State) : Except Err State :=
  match checkIn s with
  | .error e => .error e
  | .ok () => .ok (s.goto .format)

/-- R254 -/
def execDecodeFrame (s : State) : Host.Outcome State Fault Refusal := startCommand 4 bodyDecodeFrame s

/-- R255: COMPOSITE matches COLOR first (R222). -/
def execComposite (s : State) : Host.Outcome State Fault Refusal := startCommand 5 (fun s => .ok (s.goto .format)) s

/-- R256: BUILD_TABLE looks at TBL_SEL first. -/
def execBuildTable (s : State) : Host.Outcome State Fault Refusal := startCommand 6 (fun s => .ok (s.goto .tblSel)) s

/-- R257: clear the previous-frame record. -/
def clearPrev (s : State) : State :=
  s.setRegs { s.regs with prevDispose := 0, prevX := 0, prevY := 0, prevW := 0, prevH := 0 }

/-- R257: CRESET. -/
def execCreset (s : State) : Host.Outcome State Fault Refusal := startCommand 7 (fun s => .ok (clearPrev s).finish) s

/-- R258: a reserved OP value raises PARAM(0x0A00). -/
def execCmdReserved (op : Nat) (s : State) : Host.Outcome State Fault Refusal :=
  startCommand (BitVec.ofNat 4 op) (fun _ => .error (param 0x0A00)) s

end Sys2Proof.Machine
end

