-- ==== Sys2Proof/Machine/Block.lean ====
section
/-! DEFINITION. The block headers of the Inflate Engine (41_inflate.md sections 1 to 4) and the end of a block. -/

namespace Sys2Proof.Machine

/-- R160 and R161: the Inflate returns (pos, cur). INFLATE_ZLIB and INFLATE_RAW then end; DECODE_FRAME requires a full
buffer (R264) and goes on to the Filter Reconstructor (R254). -/
def endInflate (s : State) : Except Err State :=
  let s := s.setRegs { s.regs with outPos := BitVec.ofNat 32 s.engine.pos, bitPos := BitVec.ofNat 32 s.engine.cur }
  if s.runningOp = 4 then
    if s.engine.pos ≠ s.engine.cap then .error (malformed 0x0A06)
    else .ok (s.setEngine { s.engine with phase := .filt, row := 0 })
  else .ok s.finish

/-- R161 and R184, END_BLOCK: another header if BFINAL is 0, the end of the Inflate if it is 1. -/
def endBlock (s : State) : Except Err State :=
  if s.engine.bfinal then endInflate s else .ok (s.goto .hdr)

/-- R161: latch the header's two fields. -/
def State.latchHeader (bfinal : Bool) (btype : BitVec 2) (s : State) : State :=
  s.setEngine { s.engine with bfinal := bfinal, btype := btype }

/-- R82: the 2-byte little-endian value at byte `p` of the payload. -/
def State.payload16 (s : State) (p : Nat) : Nat :=
  (s.rd .inp (s.engine.inbase + p)).toNat + 256 * (s.rd .inp (s.engine.inbase + p + 1)).toNat

/-- R163: the byte index a stored block's LEN stands at, the next byte boundary (an aligned cursor does not move). -/
def State.storedAt (s : State) : Nat := ceilDiv s.engine.cur 8

/-- R163: copy `len` bytes from the payload to OUT[pos ..]. -/
def State.storedCopy (s : State) (p len : Nat) : Mem :=
  Mem.fill s.engine.pos len (fun k _ => s.rd .inp (s.engine.inbase + p + 4 + k)) s.mems.out

/-- R163: StoredBlock. -/
def storedBlock (s : State) : Except Err State :=
  let p := s.storedAt
  let len := s.payload16 p
  if s.engine.inlen < p + 4 then .error (malformed 0x0301)
  else if len ≠ s.payload16 (p + 2) ^^^ 0xFFFF then .error (malformed 0x0302)
  else if s.engine.inlen < p + 4 + len then .error (malformed 0x0303)
  else if s.engine.cap < s.engine.pos + len then .error (malformed 0x0304)
  else
    .ok ((s.setMem .out (s.storedCopy p len)).setEngine
      { s.engine with pos := s.engine.pos + len, cur := (p + 4 + len) * 8 })

/-- R163: a stored block, whole, and the block's end. -/
def bodyStored (s : State) : Except Err State :=
  match storedBlock s with
  | .error e => .error e
  | .ok s => endBlock s

/-- R163 -/
def execStored (bfinal : Bool) (s : State) : Host.Outcome State Fault Refusal :=
  let s := s.latchHeader bfinal 0
  settle s (bodyStored s)

/-- R165: a fixed block reads no header beyond its 3 bits; FLL and FD are selected. -/
def execFixed (bfinal : Bool) (s : State) : Host.Outcome State Fault Refusal :=
  let s := s.latchHeader bfinal 1
  .next (s.setEngine { s.engine with phase := .syms, pair := .fixed })

/-- R166: read `hclen` 3-bit code-length-code lengths into `cl_len`, in CLORDER. -/
def State.readClLens (s : State) : (order clLen : List Nat) → (cur : Nat) → Except Err (List Nat × Nat)
  | [], clLen, cur => .ok (clLen, cur)
  | j :: order, clLen, cur =>
    match s.readBits 3 cur with
    | .error e => .error e
    | .ok (v, cur) => s.readClLens order (clLen.set j v) cur

/-- R166: DynamicHeader, part 1: the counts, the code-length-code lengths, and the TCL build. -/
def dynamicHeader (s : State) : Except Err State :=
  match s.readBits 5 s.engine.cur with
  | .error e => .error e
  | .ok (hlit, cur) =>
    match s.readBits 5 cur with
    | .error e => .error e
    | .ok (hdist, cur) =>
      match s.readBits 4 cur with
      | .error e => .error e
      | .ok (hclen, cur) =>
        match s.readClLens (clOrder.take (hclen + 4)) (List.replicate 19 0) cur with
        | .error e => .error e
        | .ok (clLen, cur) =>
          let s := s.setEngine { s.engine with cur := cur, hlit := hlit + 257, hdist := hdist + 1, hclen := hclen + 4,
                                               clLen := clLen, lens := [], pair := .dynamic }
          match buildInto .tcl [] clLen s with
          | .error e => .error e
          | .ok s => .ok (s.goto .codeLens)

/-- R166 -/
def execDynamic (bfinal : Bool) (s : State) : Host.Outcome State Fault Refusal :=
  let s := s.latchHeader bfinal 2
  settle s (dynamicHeader s)

/-- R162: BTYPE 3 raises MALFORMED(0x0202), whatever BFINAL is. -/
def execBtypeReserved (bfinal : Bool) (s : State) : Host.Outcome State Fault Refusal :=
  settle (s.latchHeader bfinal 3) (.error (malformed 0x0202))

end Sys2Proof.Machine
end

