-- ==== Sys2Proof/Machine/CodeLength.lean ====
section
/-! DEFINITION. The code-length symbols of a dynamic header (R167 to R170). -/

namespace Sys2Proof.Machine

/-- R170: the literal/length lengths, padded with zeros to 288 symbols. -/
def Engine.llLens (e : Engine) : List Nat :=
  (List.range 288).map (fun k => if k < e.hlit then e.lens.getD k 0 else 0)

/-- R170: the distance lengths, padded with zeros to 32 symbols. -/
def Engine.distLens (e : Engine) : List Nat :=
  (List.range 32).map (fun k => if k < e.hdist then e.lens.getD (e.hlit + k) 0 else 0)

/-- R170: split the lengths, build TLL and then TD, and go on to the block's symbols. -/
def buildBlockTables (s : State) : Except Err State :=
  match buildInto .tll [] s.engine.llLens s with
  | .error e => .error e
  | .ok s =>
    match buildInto .td [.tll] s.engine.distLens s with
    | .error e => .error e
    | .ok s => .ok (s.goto .syms)

/-- R167: the loop goes on while i < hlit + hdist. -/
def nextCodeLength (s : State) : Except Err State :=
  if s.engine.lens.length < s.engine.hlit + s.engine.hdist then .ok (s.goto .codeLens) else buildBlockTables s

/-- R169: RepeatFill(r, v), and the loop. -/
def repeatFill (r v : Nat) (s : State) : Except Err State :=
  if s.engine.hlit + s.engine.hdist < s.engine.lens.length + r then .error (malformed 0x0402)
  else nextCodeLength (s.setEngine { s.engine with lens := s.engine.lens ++ List.replicate r v })

/-- R167 and R168: a repeat count of `base` plus a `width`-bit field, of the length `v`. -/
def repeatCount (base width v : Nat) (s : State) : Except Err State :=
  match s.readBits width s.engine.cur with
  | .error e => .error e
  | .ok (x, cur) => repeatFill (base + x) v (s.setEngine { s.engine with cur := cur })

/-- R167: a code length 0 to 15. -/
def execClLen (l : Nat) (s : State) : Host.Outcome State Fault Refusal :=
  settle s (nextCodeLength (s.setEngine { s.engine with lens := s.engine.lens ++ [l] }))

/-- R167: symbol 16, repeat the previous length 3 to 6 times; it may not come first. -/
def bodyClRepeatPrev (s : State) : Except Err State :=
  if s.engine.lens.length = 0 then .error (malformed 0x0401)
  else repeatCount 3 2 (s.engine.lens.getD (s.engine.lens.length - 1) 0) s

/-- R167 -/
def execClRepeatPrev (s : State) : Host.Outcome State Fault Refusal := settle s (bodyClRepeatPrev s)

/-- R168: symbol 17, 3 to 10 zeros. -/
def execClRepeatZeroShort (s : State) : Host.Outcome State Fault Refusal := settle s (repeatCount 3 3 0 s)

/-- R168: symbol 18, 11 to 138 zeros. -/
def execClRepeatZeroLong (s : State) : Host.Outcome State Fault Refusal := settle s (repeatCount 11 7 0 s)

end Sys2Proof.Machine
end

