-- ==== Sys2Proof/Machine/Compositor.lean ====
section
/-! DEFINITION. The Frame Compositor (44_compositor.md): blend modes, dispose codes at their three uses, blend codes at
their two. No pixel's result depends on another's (R228), so each step is given byte by byte. -/

namespace Sys2Proof.Machine

/-! ### BLEND_MODE (R222, R232) -/

/-- R222 and R232: a legal blend mode selects the OVER formula; FRAME_OPS.DISPOSE is checked next. -/
def selectMode (m : BlendMode) (s : State) : State :=
  s.setEngine { s.engine with phase := .disposeCheck, mode := m }

/-- R232, mode 0. -/
def execBlendModeSingleDiv (s : State) : Host.Outcome State Fault Refusal := .next (selectMode .singleDiv s)
/-- R232, mode 1. -/
def execBlendModePerTerm (s : State) : Host.Outcome State Fault Refusal := .next (selectMode .perTerm s)
/-- R232, mode 2. -/
def execBlendModeRefTrunc (s : State) : Host.Outcome State Fault Refusal := .next (selectMode .refTrunc s)
/-- R222: BLEND_MODE = 3 raises PARAM(0x0902). -/
def execBlendModeReserved (s : State) : Host.Outcome State Fault Refusal := settle s (.error (param 0x0902))

/-! ### Dispose (R222 to R227) -/

/-- R225: CANVAS with the previous rectangle zero-filled. -/
def State.canvasBackground (s : State) : Mem :=
  let cw := s.regs.canvasW.toNat
  Mem.fill 0 (4 * cw * s.regs.canvasH.toNat)
    (fun a old => if s.regs.prevRect.has (pixelX cw a) (pixelY cw a) then 0 else old) s.mems.canvas

/-- R226: CANVAS with the previous rectangle overwritten by the snapshot, laid out with width PREV_W (R81). -/
def State.canvasRestored (s : State) : Mem :=
  let cw := s.regs.canvasW.toNat
  let p := s.regs.prevRect
  Mem.fill 0 (4 * cw * s.regs.canvasH.toNat)
    (fun a old =>
      if p.has (pixelX cw a) (pixelY cw a) then
        s.rd .snap (pixelByte p.w (pixelX cw a - p.x) (pixelY cw a - p.y) (pixelChannel a))
      else old) s.mems.canvas

/-- R227: SNAP with the current frame's rectangle of CANVAS, laid out with width FRAME_W (R81). -/
def State.snapTaken (s : State) : Mem :=
  let f := s.regs.frameRect
  Mem.fill 0 (4 * f.w * f.h)
    (fun b _ =>
      s.rd .canvas (pixelByte s.regs.canvasW.toNat (f.x + pixelX f.w b) (f.y + pixelY f.w b) (pixelChannel b)))
    s.mems.snap

/-- A valid dispose code passes its check; FRAME_OPS.BLEND is checked next (R222). -/
def disposeChecked (s : State) : State := s.goto .blendCheck
/-- Step 1 is done; step 2 comes next (R220). -/
def disposeRestored (s : State) : State := s.goto .disposeSnap
/-- Step 2 is done; step 3 comes next (R220). -/
def disposeSnapped (s : State) : State := s.goto .paint

/-- R224, NONE: no action. -/
def execDisposeNone (u : DisposeUse) (s : State) : Host.Outcome State Fault Refusal :=
  match u with
  | .check => .next (disposeChecked s)
  | .restore => .next (disposeRestored s)
  | .snap => .next (disposeSnapped s)

/-- R225, BACKGROUND: step 1 zero-fills the previous rectangle. -/
def execDisposeBackground (u : DisposeUse) (s : State) : Host.Outcome State Fault Refusal :=
  match u with
  | .check => .next (disposeChecked s)
  | .restore => .next (disposeRestored (s.setMem .canvas s.canvasBackground))
  | .snap => .next (disposeSnapped s)

/-- R226 and R227, PREVIOUS: step 1 restores the snapshot, step 2 takes one. -/
def execDisposePrevious (u : DisposeUse) (s : State) : Host.Outcome State Fault Refusal :=
  match u with
  | .check => .next (disposeChecked s)
  | .restore => .next (disposeRestored (s.setMem .canvas s.canvasRestored))
  | .snap => .next (disposeSnapped (s.setMem .snap s.snapTaken))

/-- R222: an invalid code raises PARAM(0x0903). Steps 1 and 2 have no action for one (R224, R227), and never see one
(R237). -/
def execDisposeInvalid (u : DisposeUse) (_v : Nat) (s : State) : Host.Outcome State Fault Refusal :=
  match u with
  | .check => settle s (.error (param 0x0903))
  | .restore => .next (disposeRestored s)
  | .snap => .next (disposeSnapped s)

/-! ### Blend (R222, R228 to R237) -/

/-- R222: the checks after the blend code's, in their order. All sums and products are exact. -/
def geometryChecks (s : State) : Except Err Unit :=
  let r := s.regs
  let w := r.frameW.toNat
  let h := r.frameH.toNat
  let cw := r.canvasW.toNat
  let ch := r.canvasH.toNat
  if w = 0 ∨ h = 0 then .error (param 0x0A03)
  else if s.params.canvasCap < 4 * cw * ch then .error (param 0x0905)
  else if ¬ r.frameRect.within cw ch then .error (param 0x0906)
  else if s.params.outCap < ceilDiv (w * h * r.bitDepth.toNat) 8 then .error (param 0x0907)
  else if (r.prevDispose.toNat = 1 ∨ r.prevDispose.toNat = 2) ∧ ¬ r.prevRect.within cw ch then .error (param 0x0908)
  else if r.dispose.toNat = 2 ∧ s.params.snapCap < 4 * w * h then .error (nomem 0x0909)
  else .ok ()

/-- R222: a valid blend code passes its check, the geometry checks follow, and step 1 comes next. -/
def blendChecked (s : State) : Except Err State :=
  match geometryChecks s with
  | .error e => .error e
  | .ok () => .ok (s.goto .disposeRestore)

/-- R223: the palette index of frame pixel (px, py): the `d`-bit field of OUT at its buffer bit, most significant bit
first. -/
def frameIndex (out : Mem) (w d px py : Nat) : Nat :=
  (List.range d).foldl (fun idx k => 2 * idx + out.bitMsb ((py * w + px) * d + k)) 0

/-- R229: the alpha of palette entry `idx`. -/
def State.texelAlpha (s : State) (idx : Nat) : Nat :=
  if idx < effectiveTrnsLen s.regs.trnsLen.toNat then (s.rd .trns idx).toNat else 255

/-- R229: channel `c` of the texel of palette entry `idx`. -/
def State.texel (s : State) (idx c : Nat) : Nat :=
  if c < 3 then (s.rd .pal (3 * idx + c)).toNat else s.texelAlpha idx

/-- R230 and R231: a canvas byte after SOURCE (`isOver = false`) or OVER, from the texel channel `t`, the texel alpha
`a` and the canvas value `old`. The alpha channel is blended like the others. -/
def paintByte (isOver : Bool) (m : BlendMode) (t a old : Nat) : Nat := if isOver then blendChannel m t a old else t

/-- R228: CANVAS with the current frame painted. -/
def State.canvasPainted (s : State) (isOver : Bool) : Mem :=
  let cw := s.regs.canvasW.toNat
  let f := s.regs.frameRect
  Mem.fill 0 (4 * cw * s.regs.canvasH.toNat)
    (fun a old =>
      if f.has (pixelX cw a) (pixelY cw a) then
        let idx := frameIndex s.mems.out f.w s.regs.bitDepth.toNat (pixelX cw a - f.x) (pixelY cw a - f.y)
        BitVec.ofNat 8 (paintByte isOver s.engine.mode (s.texel idx (pixelChannel a)) (s.texelAlpha idx) old.toNat)
      else old) s.mems.canvas

/-- R237: Step4_Record. -/
def recordPrev (s : State) : State :=
  s.setRegs { s.regs with prevDispose := s.regs.dispose, prevX := s.regs.frameX, prevY := s.regs.frameY,
                          prevW := s.regs.frameW, prevH := s.regs.frameH }

/-- R220: steps 3 and 4, and the command's end. -/
def paintFrame (isOver : Bool) (s : State) : State := (recordPrev (s.setMem .canvas (s.canvasPainted isOver))).finish

/-- R230: SOURCE. -/
def execBlendSource (u : BlendUse) (s : State) : Host.Outcome State Fault Refusal :=
  match u with
  | .check => settle s (blendChecked s)
  | .paint => .next (paintFrame false s)

/-- R231: OVER. -/
def execBlendOver (u : BlendUse) (s : State) : Host.Outcome State Fault Refusal :=
  match u with
  | .check => settle s (blendChecked s)
  | .paint => .next (paintFrame true s)

/-- R222: an invalid code raises PARAM(0x0904). Step 3, which never sees one, takes its OVER branch for it (R228). -/
def execBlendInvalid (u : BlendUse) (_v : Nat) (s : State) : Host.Outcome State Fault Refusal :=
  match u with
  | .check => settle s (.error (param 0x0904))
  | .paint => .next (paintFrame true s)

end Sys2Proof.Machine
end

