-- ==== Sys2Proof/Machine/Filter.lean ====
section
/-! DEFINITION. The Filter Reconstructor (43_filter.md): one row per filter-type byte, then compaction. -/

namespace Sys2Proof.Machine

/-- A scanline filter's prediction term from the left, above and above-left bytes. -/
abbrev Predictor := Nat → Nat → Nat → Nat

/-- R209: Paeth, ties broken in order a, then b, then c. -/
def paeth : Predictor := fun a b c =>
  let p : Int := (a : Int) + b - c
  let pa := (p - a).natAbs
  let pb := (p - b).natAbs
  let pc := (p - c).natAbs
  if pa ≤ pb ∧ pa ≤ pc then a else if pb ≤ pc then b else c

/-- R205 -/
def predictNone : Predictor := fun _ _ _ => 0
/-- R206 -/
def predictSub : Predictor := fun a _ _ => a
/-- R207 -/
def predictUp : Predictor := fun _ b _ => b
/-- R208: the sum is halved unreduced. -/
def predictAverage : Predictor := fun a b _ => (a + b) / 2

/-- R203, the inner loop: the first `i` reconstructed bytes of a row, from its filtered bytes `scan` and the
reconstructed row above. -/
def reconRow (pred : Predictor) (bw : Nat) (scan above : Nat → Nat) : (i : Nat) → List Nat
  | 0 => []
  | i + 1 =>
    let row := reconRow pred bw scan above i
    row ++ [(scan i + pred (if bw ≤ i then row.getD (i - bw) 0 else 0) (above i)
      (if bw ≤ i then above (i - bw) else 0)) % 256]

/-- R119: the filtered byte `i` of row `y`, after the row's filter-type byte. -/
def scanByte (out : Mem) (lb y i : Nat) : Nat := (Mem.read out ((lb + 1) * y + 1 + i)).toNat

/-- R203: byte `i` of the reconstructed row above row `y`, "all-zero for the first row". It is read back from OUT,
where R211 says it still stands. -/
def aboveByte (out : Mem) (lb y i : Nat) : Nat := if y = 0 then 0 else (Mem.read out (lb * (y - 1) + i)).toNat

/-- R203 and R211: OUT with row `y` reconstructed in place. -/
def rowOut (pred : Predictor) (bw lb y : Nat) (out : Mem) : Mem :=
  let rec_ := reconRow pred bw (scanByte out lb y) (aboveByte out lb y) lb
  Mem.fill (lb * y) lb (fun i _ => BitVec.ofNat 8 (rec_.getD i 0)) out

/-- R212: bit `7 - k` of output byte `j` of the compaction (`k` counts from the most significant bit): the data bit
it takes from the reconstructed rows, or the bit it keeps when it lies past the last data bit. -/
def compactBit (r : Mem) (rb lb h j k : Nat) : Nat :=
  let o := 8 * j + k
  if o < rb * h then r.bitMsb (8 * lb * (o / rb) + o % rb) else r.bitMsb o

/-- R212: output byte `j` of the compaction. -/
def compactByte (r : Mem) (rb lb h j : Nat) : Nat :=
  (List.range 8).foldl (fun v k => 2 * v + compactBit r rb lb h j k) 0

/-- R212: Compact. -/
def compact (w h bpp : Nat) (out : Mem) : Mem :=
  if bpp < 8 ∧ w * bpp % 8 ≠ 0 then
    Mem.fill 0 (ceilDiv (w * bpp * h) 8)
      (fun j _ => BitVec.ofNat 8 (compactByte out (w * bpp) (lineBytes w bpp) h j)) out
  else out

/-- R203 and R210: one row; after the last, compaction, OUT_SIZE ← FinalSize, and the command's end. -/
def filterRow (pred : Predictor) (s : State) : State :=
  let w := s.regs.frameW.toNat
  let h := s.regs.frameH.toNat
  let bpp := s.engine.bpp
  let out := rowOut pred (byteWidth bpp) (lineBytes w bpp) s.engine.row s.mems.out
  if s.engine.row + 1 < h then
    (s.setMem .out out).setEngine { s.engine with phase := .filt, row := s.engine.row + 1 }
  else
    ((s.setMem .out (compact w h bpp out)).setRegs
      { s.regs with outSize := BitVec.ofNat 32 (finalSize w h bpp) }).finish

/-- R205 -/
def execFiltNone (s : State) : Host.Outcome State Fault Refusal := .next (filterRow predictNone s)
/-- R206 -/
def execFiltSub (s : State) : Host.Outcome State Fault Refusal := .next (filterRow predictSub s)
/-- R207 -/
def execFiltUp (s : State) : Host.Outcome State Fault Refusal := .next (filterRow predictUp s)
/-- R208 -/
def execFiltAverage (s : State) : Host.Outcome State Fault Refusal := .next (filterRow predictAverage s)
/-- R209 -/
def execFiltPaeth (s : State) : Host.Outcome State Fault Refusal := .next (filterRow paeth s)
/-- R204: an unrecognized filter type raises MALFORMED(0x0801). -/
def execFiltInvalid (_v : Nat) (s : State) : Host.Outcome State Fault Refusal := settle s (.error (malformed 0x0801))

end Sys2Proof.Machine
end

