-- ==== Sys2Proof/Machine/PixelFormat.lean ====
section
/-! DEFINITION. The colour format codes (R200, R201): the command that needed bpp goes on with it. -/

namespace Sys2Proof.Machine

/-- R253: DEFILTER after the format check: dimensions, then S against OUT, then the first row. -/
def defilterChecks (bpp : Nat) (s : State) : Except Err State :=
  let w := s.regs.frameW.toNat
  let h := s.regs.frameH.toNat
  if w = 0 ∨ h = 0 then .error (param 0x0A03)
  else if s.params.outCap < expectedSize w h bpp then .error (param 0x0A04)
  else .ok (s.setEngine { s.engine with phase := .filt, bpp := bpp, row := 0 })

/-- R254: DECODE_FRAME after the format check: dimensions, S against OUT, OUT_SIZE ← S, then the zlib header. -/
def decodeFrameChecks (bpp : Nat) (s : State) : Except Err State :=
  let w := s.regs.frameW.toNat
  let h := s.regs.frameH.toNat
  if w = 0 ∨ h = 0 then .error (param 0x0A03)
  else if s.params.outCap < expectedSize w h bpp then .error (nomem 0x0A05)
  else
    .ok ((s.setRegs { s.regs with outSize := BitVec.ofNat 32 (expectedSize w h bpp) }).setEngine
      { s.engine with phase := .zlibCmf, bpp := bpp, cap := expectedSize w h bpp })

/-- R222: COMPOSITE after the format check: only colour type 3 goes on (R221). -/
def compositeFormatCheck (ct bpp : Nat) (s : State) : Except Err State :=
  if ct = 3 then .ok (s.setEngine { s.engine with phase := .blendMode, bpp := bpp }) else .error (param 0x0901)

/-- R201: the running command has found the pair (`ct`, `d`) matched, with `bpp` bits per pixel, and goes on. With no
such command running, bpp is only latched. -/
def acceptFormat (ct bpp : Nat) (s : State) : Except Err State :=
  match s.runningOp with
  | 3 => defilterChecks bpp s
  | 4 => decodeFrameChecks bpp s
  | 5 => compositeFormatCheck ct bpp s
  | _ => .ok (s.setEngine { s.engine with bpp := bpp })

/-- R200: (0, 1). -/
def execFmtGray1 (s : State) : Host.Outcome State Fault Refusal := settle s (acceptFormat 0 1 s)
/-- R200: (0, 2). -/
def execFmtGray2 (s : State) : Host.Outcome State Fault Refusal := settle s (acceptFormat 0 2 s)
/-- R200: (0, 4). -/
def execFmtGray4 (s : State) : Host.Outcome State Fault Refusal := settle s (acceptFormat 0 4 s)
/-- R200: (0, 8). -/
def execFmtGray8 (s : State) : Host.Outcome State Fault Refusal := settle s (acceptFormat 0 8 s)
/-- R200: (0, 16). -/
def execFmtGray16 (s : State) : Host.Outcome State Fault Refusal := settle s (acceptFormat 0 16 s)
/-- R200: (2, 8). -/
def execFmtRgb8 (s : State) : Host.Outcome State Fault Refusal := settle s (acceptFormat 2 24 s)
/-- R200: (2, 16). -/
def execFmtRgb16 (s : State) : Host.Outcome State Fault Refusal := settle s (acceptFormat 2 48 s)
/-- R200: (3, 1). -/
def execFmtIndexed1 (s : State) : Host.Outcome State Fault Refusal := settle s (acceptFormat 3 1 s)
/-- R200: (3, 2). -/
def execFmtIndexed2 (s : State) : Host.Outcome State Fault Refusal := settle s (acceptFormat 3 2 s)
/-- R200: (3, 4). -/
def execFmtIndexed4 (s : State) : Host.Outcome State Fault Refusal := settle s (acceptFormat 3 4 s)
/-- R200: (3, 8). -/
def execFmtIndexed8 (s : State) : Host.Outcome State Fault Refusal := settle s (acceptFormat 3 8 s)
/-- R200: (4, 8). -/
def execFmtGrayAlpha8 (s : State) : Host.Outcome State Fault Refusal := settle s (acceptFormat 4 16 s)
/-- R200: (4, 16). -/
def execFmtGrayAlpha16 (s : State) : Host.Outcome State Fault Refusal := settle s (acceptFormat 4 32 s)
/-- R200: (6, 8). -/
def execFmtRgba8 (s : State) : Host.Outcome State Fault Refusal := settle s (acceptFormat 6 32 s)
/-- R200: (6, 16). -/
def execFmtRgba16 (s : State) : Host.Outcome State Fault Refusal := settle s (acceptFormat 6 64 s)

end Sys2Proof.Machine
end

