-- ==== Sys2Proof/Machine/Symbol.lean ====
section
/-! DEFINITION. The literal/length and distance symbols of a Huffman block (R171 to R179). -/

namespace Sys2Proof.Machine

/-- R172: emit one byte. -/
def bodyLit (v : Nat) (s : State) : Except Err State :=
  if s.engine.cap ≤ s.engine.pos then .error (malformed 0x0701)
  else
    .ok ((s.setMem .out (Mem.write s.engine.pos (BitVec.ofNat 8 v) s.mems.out)).setEngine
      { s.engine with pos := s.engine.pos + 1 })

/-- R172 -/
def execLit (v : Nat) (s : State) : Host.Outcome State Fault Refusal := settle s (bodyLit v s)

/-- R173: the block ends. -/
def execEob (s : State) : Host.Outcome State Fault Refusal := settle s (endBlock s)

/-- R174: the length, with its extra bits; its distance symbol is read next. -/
def bodyLen (sym : Nat) (s : State) : Except Err State :=
  match s.readBits (lextra sym) s.engine.cur with
  | .error e => .error e
  | .ok (x, cur) => .ok (s.setEngine { s.engine with phase := .dist, length := lbase sym + x, cur := cur })

/-- R174 -/
def execLen (sym : Nat) (s : State) : Host.Outcome State Fault Refusal := settle s (bodyLen sym s)

/-- R178: symbols 286 and 287 raise MALFORMED(0x0702). -/
def execLlInvalid (_sym : Nat) (s : State) : Host.Outcome State Fault Refusal := settle s (.error (malformed 0x0702))

/-- R177: the loop of Copy, with `left` bytes to go: `back` wraps to `start - dist` when it catches up with `start`. -/
def copyLoop (start dist : Nat) : (left pos back : Nat) → Mem → Mem
  | 0, _, _, m => m
  | left + 1, pos, back, m =>
    copyLoop start dist left (pos + 1) (if start ≤ back + 1 then start - dist else back + 1)
      (Mem.write pos (Mem.read m back) m)

/-- R177: Copy(length, dist) at `pos`. -/
def copyBack (pos length dist : Nat) (m : Mem) : Mem := copyLoop pos dist length pos (pos - dist) m

/-- R175, R176, R179, R177: the distance with its extra bits, its two checks, and the copy of the pending length. -/
def bodyDist (dsym : Nat) (s : State) : Except Err State :=
  match s.readBits (dextra dsym) s.engine.cur with
  | .error e => .error e
  | .ok (x, cur) =>
    let dist := dbase dsym + x
    if s.engine.pos < dist then .error (malformed 0x0704)
    else if s.engine.cap < s.engine.pos + s.engine.length then .error (malformed 0x0705)
    else
      .ok ((s.setMem .out (copyBack s.engine.pos s.engine.length dist s.mems.out)).setEngine
        { s.engine with phase := .syms, pos := s.engine.pos + s.engine.length, cur := cur })

/-- R175 -/
def execDist (dsym : Nat) (s : State) : Host.Outcome State Fault Refusal := settle s (bodyDist dsym s)

/-- R175: distance symbols 30 and 31 raise MALFORMED(0x0703) before any extra bits are read. -/
def execDistInvalid (_dsym : Nat) (s : State) : Host.Outcome State Fault Refusal := settle s (.error (malformed 0x0703))

end Sys2Proof.Machine
end

