-- ==== Sys2Proof/Machine/TableSelect.lean ====
section
/-! DEFINITION. The table-select codes (R45, R256): BUILD_TABLE on the RAM TBL_SEL selects. -/

namespace Sys2Proof.Machine

/-- R256: the code lengths, the TBL_N bytes of IN from IN_BASE. -/
def State.hostLens (s : State) : List Nat :=
  (List.range s.regs.tblN.toNat).map (fun k => (s.rd .inp (s.regs.inBase.toNat + k)).toNat)

/-- R256: the checks after TBL_SEL's, the build, and the command's end. -/
def buildSelected (id : TableId) (s : State) : Except Err State :=
  let n := s.regs.tblN.toNat
  if n = 0 ∨ id.nmax < n then .error (param 0x0C02)
  else if s.params.inCap < s.regs.inBase.toNat + n then .error (param 0x0C03)
  else if s.hostLens.any (fun l => decide (15 < l)) then .error (param 0x0C04)
  else
    match buildInto id [] s.hostLens s with
    | .error e => .error e
    | .ok s => .ok s.finish

/-- R256, TBL_SEL = 0. -/
def execTblTll (s : State) : Host.Outcome State Fault Refusal := settle s (buildSelected .tll s)
/-- R256, TBL_SEL = 1. -/
def execTblTd (s : State) : Host.Outcome State Fault Refusal := settle s (buildSelected .td s)
/-- R256, TBL_SEL = 2. -/
def execTblTcl (s : State) : Host.Outcome State Fault Refusal := settle s (buildSelected .tcl s)
/-- R256: TBL_SEL = 3 raises PARAM(0x0C01). -/
def execTblReserved (s : State) : Host.Outcome State Fault Refusal := settle s (.error (param 0x0C01))

end Sys2Proof.Machine
end

