-- ==== Sys2Proof/Machine/Zlib.lean ====
section
/-! DEFINITION. The Zlib Wrapper (42_zlib.md): the two header bytes as elements. -/

namespace Sys2Proof.Machine

/-- R195: the two checks made before CMF's fields are looked at, on the whole header: its presence (R196) and
FCHECK (R190). -/
def zlibHeaderCheck (s : State) : Except Err Unit :=
  let base := s.regs.inBase.toNat
  if s.regs.inLen.toNat < 2 then .error (malformed 0x0101)
  else if ((s.rd .inp base).toNat * 256 + (s.rd .inp (base + 1)).toNat) % 31 ≠ 0 then .error (malformed 0x0102)
  else .ok ()

/-- R191: CMF passes; CINFO has no effect (R193). FLG is looked at next. -/
def execZlibCmfOk (_cinfo : Nat) (s : State) : Host.Outcome State Fault Refusal := .next (s.goto .zlibFlg)

/-- R192 and R194: FLG passes, FLEVEL has no effect (R193), and the Inflate starts two bytes into the payload. -/
def execZlibFlgFdictClear (_flevel _fcheck : Nat) (s : State) : Host.Outcome State Fault Refusal :=
  .next (startInflate (s.regs.inBase.toNat + 2) (s.regs.inLen.toNat - 2) s)

end Sys2Proof.Machine
end

