-- ==== Sys2Proof/Machine/Dispatch.lean ====
section
/-! DEFINITION. One arm per instruction. -/

namespace Sys2Proof.Machine

def exec (i : Instr) (s : State) : Host.Outcome State Fault Refusal :=
  match i with
  | .nop => Sys2Proof.Machine.execNop s
  | .inflateZlib => Sys2Proof.Machine.execInflateZlib s
  | .inflateRaw => Sys2Proof.Machine.execInflateRaw s
  | .defilter => Sys2Proof.Machine.execDefilter s
  | .decodeFrame => Sys2Proof.Machine.execDecodeFrame s
  | .composite => Sys2Proof.Machine.execComposite s
  | .buildTable => Sys2Proof.Machine.execBuildTable s
  | .creset => Sys2Proof.Machine.execCreset s
  | .cmdReserved op => Sys2Proof.Machine.execCmdReserved op s
  | .stored b => Sys2Proof.Machine.execStored b s
  | .fixed b => Sys2Proof.Machine.execFixed b s
  | .dynamic b => Sys2Proof.Machine.execDynamic b s
  | .btypeReserved b => Sys2Proof.Machine.execBtypeReserved b s
  | .lit v => Sys2Proof.Machine.execLit v s
  | .eob => Sys2Proof.Machine.execEob s
  | .len sym => Sys2Proof.Machine.execLen sym s
  | .llInvalid sym => Sys2Proof.Machine.execLlInvalid sym s
  | .dist d => Sys2Proof.Machine.execDist d s
  | .distInvalid d => Sys2Proof.Machine.execDistInvalid d s
  | .clLen l => Sys2Proof.Machine.execClLen l s
  | .clRepeatPrev => Sys2Proof.Machine.execClRepeatPrev s
  | .clRepeatZeroShort => Sys2Proof.Machine.execClRepeatZeroShort s
  | .clRepeatZeroLong => Sys2Proof.Machine.execClRepeatZeroLong s
  | .zlibCmfOk cinfo => Sys2Proof.Machine.execZlibCmfOk cinfo s
  | .zlibFlgFdictClear flevel fcheck => Sys2Proof.Machine.execZlibFlgFdictClear flevel fcheck s
  | .filtNone => Sys2Proof.Machine.execFiltNone s
  | .filtSub => Sys2Proof.Machine.execFiltSub s
  | .filtUp => Sys2Proof.Machine.execFiltUp s
  | .filtAverage => Sys2Proof.Machine.execFiltAverage s
  | .filtPaeth => Sys2Proof.Machine.execFiltPaeth s
  | .filtInvalid v => Sys2Proof.Machine.execFiltInvalid v s
  | .disposeNone u => Sys2Proof.Machine.execDisposeNone u s
  | .disposeBackground u => Sys2Proof.Machine.execDisposeBackground u s
  | .disposePrevious u => Sys2Proof.Machine.execDisposePrevious u s
  | .disposeInvalid u v => Sys2Proof.Machine.execDisposeInvalid u v s
  | .blendSource u => Sys2Proof.Machine.execBlendSource u s
  | .blendOver u => Sys2Proof.Machine.execBlendOver u s
  | .blendInvalid u v => Sys2Proof.Machine.execBlendInvalid u v s
  | .blendModeSingleDiv => Sys2Proof.Machine.execBlendModeSingleDiv s
  | .blendModePerTerm => Sys2Proof.Machine.execBlendModePerTerm s
  | .blendModeRefTrunc => Sys2Proof.Machine.execBlendModeRefTrunc s
  | .blendModeReserved => Sys2Proof.Machine.execBlendModeReserved s
  | .tblTll => Sys2Proof.Machine.execTblTll s
  | .tblTd => Sys2Proof.Machine.execTblTd s
  | .tblTcl => Sys2Proof.Machine.execTblTcl s
  | .tblReserved => Sys2Proof.Machine.execTblReserved s
  | .fmtGray1 => Sys2Proof.Machine.execFmtGray1 s
  | .fmtGray2 => Sys2Proof.Machine.execFmtGray2 s
  | .fmtGray4 => Sys2Proof.Machine.execFmtGray4 s
  | .fmtGray8 => Sys2Proof.Machine.execFmtGray8 s
  | .fmtGray16 => Sys2Proof.Machine.execFmtGray16 s
  | .fmtRgb8 => Sys2Proof.Machine.execFmtRgb8 s
  | .fmtRgb16 => Sys2Proof.Machine.execFmtRgb16 s
  | .fmtIndexed1 => Sys2Proof.Machine.execFmtIndexed1 s
  | .fmtIndexed2 => Sys2Proof.Machine.execFmtIndexed2 s
  | .fmtIndexed4 => Sys2Proof.Machine.execFmtIndexed4 s
  | .fmtIndexed8 => Sys2Proof.Machine.execFmtIndexed8 s
  | .fmtGrayAlpha8 => Sys2Proof.Machine.execFmtGrayAlpha8 s
  | .fmtGrayAlpha16 => Sys2Proof.Machine.execFmtGrayAlpha16 s
  | .fmtRgba8 => Sys2Proof.Machine.execFmtRgba8 s
  | .fmtRgba16 => Sys2Proof.Machine.execFmtRgba16 s

end Sys2Proof.Machine
end

