-- ==== Sys2Proof/Machine/Bus.lean ====
section
/-! DEFINITION. The host's side (20_memory.md, 70_reset_and_hazards.md section 3): the address map, the registers as the
bus sees them, the memory and table windows, and what may be accessed while a command runs. -/

namespace Sys2Proof.Machine

/-! ### The address map -/

/-- The registers of R22. -/
inductive Reg where
  | id | cmd | status | errSite | ctrl | inBase | inLen | outSize | outPos | bitPos | color | bpp
  | frameW | frameH | frameX | frameY | frameOps | frameDelay | canvasW | canvasH | trnsLen
  | prevOps | prevX | prevY | prevW | prevH | tblSel | tblN
  deriving DecidableEq, Repr

/-- The registers in the order of their offsets, four bytes apart (R22). -/
def regOrder : List Reg :=
  [.id, .cmd, .status, .errSite, .ctrl, .inBase, .inLen, .outSize, .outPos, .bitPos, .color, .bpp,
   .frameW, .frameH, .frameX, .frameY, .frameOps, .frameDelay, .canvasW, .canvasH, .trnsLen,
   .prevOps, .prevX, .prevY, .prevW, .prevH, .tblSel, .tblN]

/-- The byte offset of a register (R22). -/
def Reg.offset : Reg → Nat
  | .id => 0x000 | .cmd => 0x004 | .status => 0x008 | .errSite => 0x00C | .ctrl => 0x010
  | .inBase => 0x014 | .inLen => 0x018 | .outSize => 0x01C | .outPos => 0x020 | .bitPos => 0x024
  | .color => 0x028 | .bpp => 0x02C | .frameW => 0x030 | .frameH => 0x034 | .frameX => 0x038 | .frameY => 0x03C
  | .frameOps => 0x040 | .frameDelay => 0x044 | .canvasW => 0x048 | .canvasH => 0x04C | .trnsLen => 0x050
  | .prevOps => 0x054 | .prevX => 0x058 | .prevY => 0x05C | .prevW => 0x060 | .prevH => 0x064
  | .tblSel => 0x068 | .tblN => 0x06C

/-- The register at an offset of the register window; `none` at 0x070 to 0x0FC, which read 0 and ignore writes. -/
def regAt (off : Nat) : Option Reg := regOrder.find? (fun r => r.offset == off)

/-- What an offset of R70 belongs to. -/
inductive Place where
  /-- The register window, at a byte offset below 0x100. -/
  | reg (off : Nat)
  /-- The table window, at a byte offset below 0x900 within it. -/
  | table (off : Nat)
  /-- Byte `a` of a memory, below its capacity. -/
  | mem (id : MemId) (a : Nat)
  deriving DecidableEq, Repr

/-- The offset range of a memory's window (R70). -/
def MemId.window : MemId → Nat
  | .inp => 0x01000000
  | .out => 0x02000000
  | .canvas => 0x03000000
  | .snap => 0x04000000
  | .pal => 0x1000
  | .trns => 0x1400

/-- Whether a memory's window backs an offset (R70, R71, R73): only the bytes below its capacity are backed. -/
def backs (p : Params) (id : MemId) (off : Nat) : Bool :=
  id.window ≤ off && off < id.window + capOf p id

/-- R70: what backs an offset, if anything does (R74). -/
def locate (p : Params) (off : Nat) : Option Place :=
  if off < 0x100 then some (.reg off)
  else if 0x2000 ≤ off ∧ off < 0x2900 then some (.table (off - 0x2000))
  else
    match [MemId.pal, .trns, .inp, .out, .canvas, .snap].find? (fun id => backs p id off) with
    | some id => some (.mem id (off - id.window))
    | none => none

/-- The offset of a bus address from `P_BASE` (R70). -/
def busOffset (p : Params) (addr : Word) : Nat := (addr - p.base).toNat

/-- The bytes of an access (R76). -/
def Width.bytes : Width → Nat
  | .b1 => 1
  | .b2 => 2
  | .b4 => 4

/-! ### Registers on the bus (R22 to R46) -/

/-- R22: what a read of a register returns; every reserved bit is 0. -/
def State.readReg (s : State) : Reg → Word
  | .id => 0x41500001
  | .cmd => s.regs.op.setWidth 32
  | .status => s.status.word
  | .errSite => s.regs.errSite.setWidth 32
  | .ctrl => BitVec.ofNat 32 (2 * s.regs.blendMode.toNat)
  | .inBase => s.regs.inBase
  | .inLen => s.regs.inLen
  | .outSize => s.regs.outSize
  | .outPos => s.regs.outPos
  | .bitPos => s.regs.bitPos
  | .color => BitVec.ofNat 32 (s.regs.colorType.toNat + 256 * s.regs.bitDepth.toNat)
  | .bpp => BitVec.ofNat 32 (s.regs.bpp?.getD 0)
  | .frameW => s.regs.frameW
  | .frameH => s.regs.frameH
  | .frameX => s.regs.frameX
  | .frameY => s.regs.frameY
  | .frameOps => BitVec.ofNat 32 (s.regs.dispose.toNat + 256 * s.regs.blend.toNat)
  | .frameDelay => BitVec.ofNat 32 (s.regs.delayNum.toNat + 65536 * s.regs.delayDen.toNat)
  | .canvasW => s.regs.canvasW
  | .canvasH => s.regs.canvasH
  | .trnsLen => s.regs.trnsLen.setWidth 32
  | .prevOps => s.regs.prevDispose.setWidth 32
  | .prevX => s.regs.prevX
  | .prevY => s.regs.prevY
  | .prevW => s.regs.prevW
  | .prevH => s.regs.prevH
  | .tblSel => s.regs.tblSel.setWidth 32
  | .tblN => s.regs.tblN.setWidth 32

/-- R22: a write to a register other than CMD, and to CTRL with bit 0 = 0. Read-only registers and reserved bits ignore
it. -/
def Regs.store (r : Regs) (v : Word) : Reg → Regs
  | .ctrl => { r with blendMode := v.extractLsb' 1 2 }
  | .inBase => { r with inBase := v }
  | .inLen => { r with inLen := v }
  | .outSize => { r with outSize := v }
  | .color => { r with colorType := v.extractLsb' 0 8, bitDepth := v.extractLsb' 8 8 }
  | .frameW => { r with frameW := v }
  | .frameH => { r with frameH := v }
  | .frameX => { r with frameX := v }
  | .frameY => { r with frameY := v }
  | .frameOps => { r with dispose := v.extractLsb' 0 8, blend := v.extractLsb' 8 8 }
  | .frameDelay => { r with delayNum := v.extractLsb' 0 16, delayDen := v.extractLsb' 16 16 }
  | .canvasW => { r with canvasW := v }
  | .canvasH => { r with canvasH := v }
  | .trnsLen => { r with trnsLen := v.extractLsb' 0 9 }
  | .tblSel => { r with tblSel := v.extractLsb' 0 2 }
  | .tblN => { r with tblN := v.extractLsb' 0 9 }
  | .id | .cmd | .status | .errSite | .outPos | .bitPos | .bpp
  | .prevOps | .prevX | .prevY | .prevW | .prevH => r

/-- R24 and R250: a write to CMD decodes the command word and runs it. -/
def writeCmd (v : Word) (s : State) : Host.Outcome State Fault Refusal :=
  match decode .cmd v.toNat with
  | .ok i => exec i s
  | .error _ => .fault .undecodable

/-- R30, R31 and R321: a write to CTRL. With bit 0 = 1 it is a soft reset, at any time; with bit 0 = 0 it stores
BLEND_MODE, but is ignored while BUSY. -/
def writeCtrl (v : Word) (s : State) : State :=
  if v.getLsbD 0 then softReset s
  else if s.status.busy then s
  else s.setRegs (s.regs.store v .ctrl)

/-- R22: a write to a register. -/
def writeReg (r : Reg) (v : Word) (s : State) : Host.Outcome State Fault Refusal :=
  match r with
  | .cmd => writeCmd v s
  | .ctrl => .next (writeCtrl v s)
  | r => .next (s.setRegs (s.regs.store v r))

/-! ### The table and memory windows -/

/-- R72: a read of the table window at byte offset `off`; 0 beyond the selected RAM, and always for TBL_SEL = 3. -/
def State.readTable (s : State) (off : Nat) : Word :=
  let entry (r : TableRam) : Word := (r.entries.getD (off / 4) 0).setWidth 32
  match s.regs.tblSel.toNat with
  | 0 => entry s.tables.tll
  | 1 => entry s.tables.td
  | 2 => entry s.tables.tcl
  | _ => 0

/-- R76: `n` consecutive bytes from `a`, the lowest address least significant. -/
def State.readBytes (s : State) (id : MemId) (a : Nat) : (n : Nat) → Nat
  | 0 => 0
  | n + 1 => (s.rd id a).toNat + 256 * s.readBytes id (a + 1) n

/-- R76: write the low `n` bytes of `v` from `a`, the least significant at the lowest address. -/
def State.writeBytes (s : State) (id : MemId) (a n : Nat) (v : Word) : State :=
  s.setMem id (Mem.fill a n (fun k _ => v.extractLsb' (8 * k) 8) (s.mems.get id))

/-! ### One host access -/

/-- R75: the register and table windows take 32-bit accesses, 4-byte aligned. -/
def wordAccess (w : Width) (off : Nat) : Bool := w == .b4 && off % 4 == 0

/-- R76: the memory windows take naturally aligned accesses that stay within the backed bytes. -/
def memAccess (p : Params) (id : MemId) (w : Width) (a : Nat) : Bool :=
  a % w.bytes == 0 && a + w.bytes ≤ capOf p id

/-- A read while no command runs. -/
def idleRead (w : Width) (addr : Word) (s : State) : Host.Outcome State Fault Refusal :=
  match locate s.params (busOffset s.params addr) with
  | none => .refused .unmapped
  | some (.reg off) =>
    if wordAccess w off then
      .next (s.setRdata (match regAt off with | some r => s.readReg r | none => 0))
    else .refused .badAccess
  | some (.table off) =>
    if wordAccess w off then .next (s.setRdata (s.readTable off)) else .refused .badAccess
  | some (.mem id a) =>
    if memAccess s.params id w a then .next (s.setRdata (BitVec.ofNat 32 (s.readBytes id a w.bytes)))
    else .refused .badAccess

/-- A write while no command runs. The table window ignores writes (R72). -/
def idleWrite (w : Width) (addr v : Word) (s : State) : Host.Outcome State Fault Refusal :=
  match locate s.params (busOffset s.params addr) with
  | none => .refused .unmapped
  | some (.reg off) =>
    if wordAccess w off then
      (match regAt off with | some r => writeReg r v s | none => .next s)
    else .refused .badAccess
  | some (.table off) => if wordAccess w off then .next s else .refused .badAccess
  | some (.mem id a) =>
    if memAccess s.params id w a then .next (s.writeBytes id a w.bytes v) else .refused .badAccess

/-- R320: a read while a command runs: ID, STATUS and ERR_SITE only. -/
def busyRead (w : Width) (addr : Word) (s : State) : Host.Outcome State Fault Refusal :=
  if w = .b4 then
    match regAt (busOffset s.params addr) with
    | some .id => .next (s.setRdata (s.readReg .id))
    | some .status => .next (s.setRdata (s.readReg .status))
    | some .errSite => .next (s.setRdata (s.readReg .errSite))
    | _ => .refused .busyAccess
  else .refused .busyAccess

/-- R320 and R321: a write while a command runs: a soft reset is performed, and other writes of CTRL and those of CMD
are ignored. -/
def busyWrite (w : Width) (addr v : Word) (s : State) : Host.Outcome State Fault Refusal :=
  if w = .b4 then
    match regAt (busOffset s.params addr) with
    | some .ctrl => .next (writeCtrl v s)
    | some .cmd => writeCmd v s
    | _ => .refused .busyAccess
  else .refused .busyAccess

/-- One host access, as it lands. `WAIT` ends with a read of STATUS that returns BUSY = 0 (R127). -/
def hostAccess (op : BusOp) (s : State) : Host.Outcome State Fault Refusal :=
  match op with
  | .read w addr => if s.status.busy then busyRead w addr s else idleRead w addr s
  | .write w addr v => if s.status.busy then busyWrite w addr v s else idleWrite w addr v s
  | .wait => .next (s.setRdata (s.readReg .status))

/-! ### Host program notation (R126, R127) -/

/-- `WR32 <reg>, <value>`. -/
def wr32 (p : Params) (r : Reg) (v : Word) : BusOp := .write .b4 (p.base + BitVec.ofNat 32 r.offset) v
/-- `RD32 <reg>`. -/
def rd32 (p : Params) (r : Reg) : BusOp := .read .b4 (p.base + BitVec.ofNat 32 r.offset)
/-- `WR8 <window>+<offset>, <byte>`. -/
def wr8 (p : Params) (id : MemId) (off : Nat) (b : Byte) : BusOp :=
  .write .b1 (p.base + BitVec.ofNat 32 (id.window + off)) (b.setWidth 32)
/-- `RD8 <window>+<offset>`. -/
def rd8 (p : Params) (id : MemId) (off : Nat) : BusOp := .read .b1 (p.base + BitVec.ofNat 32 (id.window + off))
/-- `RD32 TBL+<offset>`. -/
def rd32Tbl (p : Params) (off : Nat) : BusOp := .read .b4 (p.base + BitVec.ofNat 32 (0x2000 + off))
/-- `LOAD <window>+<offset>, b0 b1 ... bk`. -/
def load (p : Params) (id : MemId) : (off : Nat) → List Byte → List BusOp
  | _, [] => []
  | off, b :: bs => wr8 p id off b :: load p id (off + 1) bs
/-- `RUN <mnemonic>`, for the command word `op`. -/
def runCmd (p : Params) (op : Word) : List BusOp := [wr32 p .cmd op, .wait]
/-- `SRST`. -/
def srst (p : Params) : BusOp := wr32 p .ctrl 1

/-- A host program as the queue of a well-behaved host, which lets every command finish (R322). -/
def hostProgram (ops : List BusOp) : List BusReq := ops.map (fun op => { after := 0, op := op })

end Sys2Proof.Machine
end

