-- ==== Sys2Proof/Machine/Bounds.lean ====
section
/-! DEFINITION. Where a running command stands, phase by phase: the command it belongs to, the checks it has passed, and
the cursors and sizes those checks have bounded (R88, R260). `engineStep` runs nothing outside these bounds. -/

namespace Sys2Proof.Machine

/-- The OP values of the commands that pass through a phase (45_commands.md). -/
def Phase.ops : Phase → List Nat
  | .idle => []
  | .format => [3, 4, 5]
  | .zlibCmf | .zlibFlg => [1, 4]
  | .hdr | .codeLens | .syms | .dist => [1, 2, 4]
  | .filt => [3, 4]
  | .blendMode | .disposeCheck | .blendCheck | .disposeRestore | .disposeSnap | .paint => [5]
  | .tblSel => [6]

/-- R253 and R254: the format is matched, the frame is not empty, and its S bytes fit OUT. -/
def State.frameFits (s : State) : Bool :=
  decide (s.regs.bpp? = some s.engine.bpp ∧ 1 ≤ s.regs.frameW.toNat ∧ 1 ≤ s.regs.frameH.toNat ∧
    expectedSize s.regs.frameW.toNat s.regs.frameH.toNat s.engine.bpp ≤ s.params.outCap)

/-- R251, R252 and R254: `cap` fits OUT, and is S for DECODE_FRAME and OUT_SIZE for the other two. -/
def State.capFits (s : State) : Bool :=
  decide (s.engine.cap ≤ s.params.outCap) &&
  (if s.runningOp = 4 then
    s.frameFits && s.engine.cap == expectedSize s.regs.frameW.toNat s.regs.frameH.toNat s.engine.bpp
  else s.engine.cap == s.regs.outSize.toNat)

/-- R263: the payload lies in IN. -/
def State.payloadFits (s : State) : Bool :=
  decide (s.regs.inBase.toNat + s.regs.inLen.toNat ≤ s.params.inCap)

/-- R88: the input lies in IN, `cur` in the input, and `pos` in the output. -/
def State.inflateFits (s : State) : Bool :=
  decide (s.engine.inbase + s.engine.inlen ≤ s.params.inCap ∧ s.engine.cur ≤ 8 * s.engine.inlen ∧
    s.engine.pos ≤ s.engine.cap) && s.capFits

/-- R232: the formula a BLEND_MODE value selects; none for the reserved value. -/
def blendModeOf (m : BitVec 2) : Option BlendMode :=
  match m.toNat with
  | 0 => some .singleDiv
  | 1 => some .perTerm
  | 2 => some .refTrunc
  | _ => none

/-- R222, the first two checks: an indexed format. -/
def State.indexed (s : State) : Bool := s.regs.colorType.toNat == 3 && s.regs.bpp?.isSome

/-- R222, the third check, with the formula it selects latched. -/
def State.modeChosen (s : State) : Bool := blendModeOf s.regs.blendMode == some s.engine.mode

/-- R222, the checks from the sixth on. -/
def State.geometryPasses (s : State) : Bool :=
  match geometryChecks s with
  | .ok () => true
  | .error _ => false

/-- R222: every check has passed. -/
def State.compositePasses (s : State) : Bool :=
  s.indexed && s.modeChosen && decide (s.regs.dispose.toNat ≤ 2) && decide (s.regs.blend.toNat ≤ 1) && s.geometryPasses

/-- What a phase's elements may rely on. -/
def State.phaseFits (s : State) : Phase → Bool
  | .idle => false
  | .format => s.runningOp != 4 || s.payloadFits
  | .zlibCmf => s.payloadFits && s.capFits
  | .zlibFlg => s.payloadFits && s.capFits && decide (2 ≤ s.regs.inLen.toNat)
  | .hdr | .codeLens | .syms | .dist => s.inflateFits
  | .filt => s.frameFits && decide (s.engine.row < s.regs.frameH.toNat)
  | .blendMode => s.indexed
  | .disposeCheck => s.indexed && s.modeChosen
  | .blendCheck => s.indexed && s.modeChosen && decide (s.regs.dispose.toNat ≤ 2)
  | .disposeRestore | .disposeSnap | .paint => s.compositePasses
  | .tblSel => true

/-- R88: the running command stands where its checks allow. -/
def State.inBounds (s : State) : Bool :=
  s.engine.phase.ops.contains s.runningOp && s.phaseFits s.engine.phase

end Sys2Proof.Machine
end

