-- ==== Sys2Proof/Machine/Fetch.lean ====
section
/-! DEFINITION. Reading the next element or code of a running command, and running it: the engine's own step. -/

namespace Sys2Proof.Machine

/-- The input cursor after a read. -/
def State.atCur (s : State) (cur : Nat) : State := s.setEngine { s.engine with cur := cur }

/-- R161: the 3-bit block header, `ReadBits(1)` and then `ReadBits(2)`, as the one value of R103. -/
def fetchHeader (s : State) : Except Err (Format × Nat × State) :=
  match s.readBits 1 s.engine.cur with
  | .error e => .error e
  | .ok (b, cur) =>
    match s.readBits 2 cur with
    | .error e => .error e
    | .ok (t, cur) => .ok (.blockHdr, b + 2 * t, s.atCur cur)

/-- R149: one Huffman symbol of a table, as a word of `fmt`. -/
def fetchSymbol (fmt : Format) (table : List (BitVec 10)) (n : Nat) (s : State) : Except Err (Format × Nat × State) :=
  match s.decodeSymbol table n s.engine.cur with
  | .error e => .error e
  | .ok (sym, cur) => .ok (fmt, sym, s.atCur cur)

/-- R195: the checks on the whole zlib header, then CMF. -/
def fetchCmf (s : State) : Except Err (Format × Nat × State) :=
  match zlibHeaderCheck s with
  | .error e => .error e
  | .ok () => .ok (.zlibCmf, (s.rd .inp s.regs.inBase.toNat).toNat, s)

/-- The next element or code of the running command: its code space, its word, and the state after reading it; or the
error its reading raises. -/
def fetch (s : State) : Except Err (Format × Nat × State) :=
  match s.engine.phase with
  | .idle => .ok (.cmd, s.runningOp, s)
  | .format => .ok (.color, s.regs.colorType.toNat + 256 * s.regs.bitDepth.toNat, s)
  | .zlibCmf => fetchCmf s
  | .zlibFlg => .ok (.zlibFlg, (s.rd .inp (s.regs.inBase.toNat + 1)).toNat, s)
  | .hdr => fetchHeader s
  | .codeLens => fetchSymbol .clSym s.tables.tcl.entries 19 s
  | .syms => fetchSymbol .llSym s.llTable 288 s
  | .dist => fetchSymbol .dSym s.distTable 32 s
  | .filt =>
    .ok (.filterType,
      (s.rd .out ((lineBytes s.regs.frameW.toNat s.engine.bpp + 1) * s.engine.row)).toNat, s)
  | .blendMode => .ok (.blendMode, s.regs.blendMode.toNat, s)
  | .disposeCheck => .ok (.dispose .check, s.regs.dispose.toNat, s)
  | .blendCheck => .ok (.blend .check, s.regs.blend.toNat, s)
  | .disposeRestore => .ok (.dispose .restore, s.regs.prevDispose.toNat, s)
  | .disposeSnap => .ok (.dispose .snap, s.regs.dispose.toNat, s)
  | .paint => .ok (.blend .paint, s.regs.blend.toNat, s)
  | .tblSel => .ok (.tblSel, s.regs.tblSel.toNat, s)

/-- The error of a word that is no instruction (R191, R192, R201). -/
def rejectError : Reject → Option Err
  | .cmfMethod => some (malformed 0x0103)
  | .fdictSet => some (malformed 0x0104)
  | .unmatchedFormat => some (unformat 0x0B01)
  | .noCode => none

/-- One element or code of the running command. Where its reading or its body raises, the working registers stand as before
that reading or that body: R141 and R149 consume the bits read, but the command has ended and R55 leaves `cur` unspecified
then. DESIGN CHOICE (log 24). -/
def engineStep (s : State) : Host.Outcome State Fault Refusal :=
  if s.inBounds then
    match fetch s with
    | .error e => .next (raise e s)
    | .ok (fmt, w, t) =>
      match decode fmt w with
      | .ok i => exec i t
      | .error r =>
        match rejectError r with
        | some e => .next (raise e t)
        | none => .fault .undecodable
  else .fault .engineOutOfBounds

end Sys2Proof.Machine
end

