-- ==== Sys2Proof/Machine/Load.lean ====
section
/-! DEFINITION. Placing one bare instruction word where the next step reads it, for the host's table question (log 2,
log 7): a command word goes into the host's queue, any other word where the engine reads the word of its code space. -/

namespace Sys2Proof.Machine

/-- A running command `op` at a phase, with the host quiet. -/
def State.running (s : State) (op : BitVec 4) (p : Phase) : State :=
  ((((s.setBus []).setStatus { s.status with busy := true, done := false, error := false, code := 0 })).setRegs
    { s.regs with op := op }).goto p

/-- An Inflate on the first bytes of IN, at bit 0, with all of OUT as its output. -/
def State.inflating (s : State) (p : Phase) (pair : TablePair) : State :=
  let s := s.running 2 p
  (s.setRegs { s.regs with outSize := BitVec.ofNat 32 s.params.outCap }).setEngine
    { s.engine with cur := 0, pos := 0, inbase := 0, inlen := min 16 s.params.inCap,
                    cap := s.params.outCap, pair := pair }

/-- The first 16 bytes of IN, from a number, bit 0 first in the stream. -/
def State.withInput (s : State) (bits : Nat) : State :=
  s.setMem .inp (Mem.fill 0 16 (fun k _ => BitVec.ofNat 8 (bits / 256 ^ k)) s.mems.inp)

/-- A table RAM whose root is a leaf for both bits: every walk decodes `sym`. -/
def TableRam.constant (r : TableRam) (sym : Nat) : TableRam :=
  { r with entries := [BitVec.ofNat 10 sym, BitVec.ofNat 10 sym] ++ r.entries.drop 2 }

/-- A code of `width` bits in stream order, most significant bit first (R79). -/
def streamOrder (width code : Nat) : Nat :=
  (List.range width).foldl (fun v k => v + (code / 2 ^ (width - 1 - k) % 2) * 2 ^ k) 0

/-- A frame of one pixel of 8 bits, for which `S` is 2. -/
def State.onePixel (s : State) : State :=
  (s.setRegs { s.regs with frameW := 1, frameH := 1, frameX := 0, frameY := 0, colorType := 0, bitDepth := 8 }).setEngine
    { s.engine with bpp := 8, row := 0 }

/-- One indexed pixel on a canvas of one pixel, as COMPOSITE leaves its checks. -/
def State.onePixelComposite (s : State) (p : Phase) : State :=
  let s := (s.running 5 p).onePixel
  (s.setRegs { s.regs with colorType := 3, blendMode := 0, dispose := 0, blend := 0, canvasW := 1, canvasH := 1,
                           prevDispose := 0, prevX := 0, prevY := 0, prevW := 0, prevH := 0 }).setEngine
    { s.engine with mode := .singleDiv }

/-- The FLG byte's partner: a CMF byte with CM = 8 that makes the header a multiple of 31, with `flg` as FLG. -/
def cmfFor (flg : Nat) : Nat :=
  ([0x08, 0x18, 0x28, 0x38, 0x48, 0x58, 0x68, 0x78].find? (fun c => (c * 256 + flg) % 31 == 0)).getD 0x78

/-- The CMF byte's partner: a FLG byte with FDICT = 0 that makes the header a multiple of 31. -/
def flgFor (cmf : Nat) : Nat := (31 - cmf * 256 % 31) % 31

/-- A zlib header of two bytes in IN, with nothing after it. -/
def State.zlibHeader (s : State) (p : Phase) (cmf flg : Nat) : State :=
  let s := (s.running 1 p).withInput (cmf + 256 * flg)
  (s.setRegs { s.regs with inBase := 0, inLen := 2, outSize := 0 }).setEngine { s.engine with cap := 0 }

/-- The word `w` of a code space, where the next step reads it. -/
def State.withWord (s : State) (fmt : Format) (w : Nat) : State :=
  match fmt with
  | .cmd =>
    (s.setStatus { s.status with busy := false, error := false }).setBus
      ({ after := 0, op := wr32 s.params .cmd (BitVec.ofNat 32 w) } :: s.bus)
  | .blockHdr => (s.inflating .hdr .fixed).withInput w
  | .fixedLL7 => (s.inflating .syms .fixed).withInput (streamOrder 7 w)
  | .fixedLL8 => (s.inflating .syms .fixed).withInput (streamOrder 8 w)
  | .fixedLL9 => (s.inflating .syms .fixed).withInput (streamOrder 9 w)
  | .fixedD5 => (s.inflating .dist .fixed).withInput (streamOrder 5 w)
  | .llSym => (s.inflating .syms .dynamic).setTables { s.tables with tll := s.tables.tll.constant w }
  | .dSym => (s.inflating .dist .dynamic).setTables { s.tables with td := s.tables.td.constant w }
  | .clSym =>
    let s := (s.inflating .codeLens .dynamic).setTables { s.tables with tcl := s.tables.tcl.constant w }
    s.setEngine { s.engine with hlit := 257, hdist := 1, lens := [] }
  | .zlibCmf => s.zlibHeader .zlibCmf w (flgFor w)
  | .zlibFlg => s.zlibHeader .zlibFlg (cmfFor w) w
  | .filterType =>
    let s := (s.running 3 .filt).onePixel
    s.setMem .out (Mem.write 0 (BitVec.ofNat 8 w) s.mems.out)
  | .dispose .check =>
    let s := s.onePixelComposite .disposeCheck
    s.setRegs { s.regs with dispose := BitVec.ofNat 8 w }
  | .dispose .restore =>
    let s := s.onePixelComposite .disposeRestore
    s.setRegs { s.regs with prevDispose := BitVec.ofNat 8 w }
  | .dispose .snap =>
    let s := s.onePixelComposite .disposeSnap
    s.setRegs { s.regs with dispose := BitVec.ofNat 8 w }
  | .blend .check =>
    let s := s.onePixelComposite .blendCheck
    s.setRegs { s.regs with blend := BitVec.ofNat 8 w }
  | .blend .paint =>
    let s := s.onePixelComposite .paint
    s.setRegs { s.regs with blend := BitVec.ofNat 8 w }
  | .blendMode =>
    let s := s.onePixelComposite .blendMode
    s.setRegs { s.regs with blendMode := BitVec.ofNat 2 w }
  | .tblSel =>
    let s := s.running 6 .tblSel
    s.setRegs { s.regs with tblSel := BitVec.ofNat 2 w }
  | .color =>
    let s := (s.running 3 .format).onePixel
    s.setRegs { s.regs with colorType := BitVec.ofNat 8 (w % 256), bitDepth := BitVec.ofNat 8 (w / 256) }

end Sys2Proof.Machine
end

