-- ==== Sys2Proof/Machine/Step.lean ====
section
/-! DEFINITION. One step of the machine: the engine's next element, or the host's next access, in the order the queue
gives (R20, R89). -/

namespace Sys2Proof.Machine

/-- One step. With no access due, a running command runs its next element and an idle engine holds its state (R299).
An access lands at once while no command runs; while one runs it lands once its count of elements has passed, and
`WAIT` once the command has ended. -/
def step (s : State) : Host.Outcome State Fault Refusal :=
  match s.bus with
  | [] => if s.status.busy then engineStep s else .next s
  | r :: rest =>
    if s.status.busy then
      match r.after, r.op with
      | k + 1, op => engineStep (s.setBus ({ after := k, op := op } :: rest))
      | 0, .wait => engineStep s
      | 0, op => hostAccess op (s.setBus rest)
    else hostAccess r.op (s.setBus rest)

/-- The state with the bare word `w` where the next step reads it, in the code space `tableFormat` gives. -/
def State.withFetchWord (s : State) (nbits w : Nat) : State := s.withWord (tableFormat nbits w) w

end Sys2Proof.Machine
end

