-- ==== Sys2Proof/Safety.lean ====
section
/-! DEFINITION. What counts as a safe run: the invariants every step keeps, and the words claims are stated in. -/

namespace Sys2Proof.Machine

/-! ### Invariants -/

/-- Every byte memory is in canonical form, and lists no byte beyond its capacity (R8, R51, R52, R88). -/
abbrev State.memsWf (s : State) : Prop :=
  ∀ id : MemId, Mem.wf (s.mems.get id) ∧ ∀ c ∈ s.mems.get id, c.1 < capOf s.params id

/-- The table RAMs have the sizes of R53. -/
abbrev State.tablesWf (s : State) : Prop :=
  ∀ id : TableId, (s.tables.get id).entries.length = 2 * id.nmax

/-- R21, R25 to R29: BUSY, DONE and ERROR exclude each other, and ERRCODE and ERR_SITE are nonzero exactly in the ERROR
state. -/
abbrev State.statusWf (s : State) : Prop :=
  ¬ (s.status.busy = true ∧ s.status.done = true) ∧ ¬ (s.status.busy = true ∧ s.status.error = true) ∧
  ¬ (s.status.done = true ∧ s.status.error = true) ∧
  (s.status.error = true ↔ s.status.code ≠ 0) ∧ (s.status.error = true ↔ s.regs.errSite ≠ 0)

/-- R237: PREV_DISPOSE only ever holds 0, 1 or 2. -/
abbrev State.prevWf (s : State) : Prop := s.regs.prevDispose.toNat ≤ 2

/-- R88: a running command stands where its checks allow; with none running the engine is at rest (R21). -/
abbrev State.engineWf (s : State) : Prop :=
  (s.status.busy = true → s.inBounds = true) ∧ (s.status.busy = false → s.engine.phase = .idle)

/-- The invariant of every reachable state. -/
structure State.Inv (s : State) : Prop where
  params : s.params.wf
  mems : s.memsWf
  tables : s.tablesWf
  status : s.statusWf
  prev : s.prevWf
  engine : s.engineWf

/-- A safe state: its step stops with no fault. -/
def State.safe (s : State) : Prop := ∀ f, step s ≠ .fault f

/-! ### Words of the claims -/

/-- The engine is idle and no error is set (R21). -/
abbrev State.idle (s : State) : Prop := s.status.busy = false ∧ s.status.error = false

/-- R250: `s` right after a write of `op` to CMD has started a command. -/
def State.started (s : State) (op : BitVec 4) : State :=
  { s with status := { s.status with busy := true, done := false }, regs := { s.regs with op := op } }

/-- R77 and R78: the `w` stream bits from bit `k`, the first read least significant. -/
def State.bitsAt (s : State) (k w : Nat) : Nat :=
  ((List.range w).map (fun i => s.streamBit (k + i) * 2 ^ i)).sum

/-- Nothing changes from `s` to `t` but the byte memories `ms`, the table RAMs `ts`, and what else is said of STATUS, the
registers and the working registers. -/
structure Keeps (ms : List MemId) (ts : List TableId) (s t : State) : Prop where
  /-- Every byte of every other memory reads as before. -/
  mems : ∀ id, id ∉ ms → ∀ a, t.rd id a = s.rd id a
  /-- Every other table RAM is the same. -/
  tables : ∀ id, id ∉ ts → t.tables.get id = s.tables.get id
  /-- The host's queue, its last read data, the model's counter of free values, and the parameters are the same. -/
  host : t.bus = s.bus ∧ t.rdata = s.rdata ∧ t.free = s.free ∧ t.params = s.params

/-- R160, R161, R264: `t` is `s` after the end of a block whose BFINAL is `bfinal`, with the engine standing as `e` says:
another header is read next; or the Inflate has returned, and INFLATE_ZLIB and INFLATE_RAW have ended, or DECODE_FRAME
goes on to its first row. -/
def BlockEnded (bfinal : Bool) (e : Engine) (s t : State) : Prop :=
  if bfinal then
    t.regs = { s.regs with outPos := BitVec.ofNat 32 e.pos, bitPos := BitVec.ofNat 32 e.cur } ∧
    (if s.runningOp = 4 then t.status = s.status ∧ t.engine = { e with phase := .filt, row := 0 }
     else t.status = { s.status with busy := false, done := true } ∧ t.engine = { e with phase := .idle })
  else t.regs = s.regs ∧ t.status = s.status ∧ t.engine = { e with phase := .hdr }

/-- R287: `t` is `s` after `raise e`, with the unspecified contents left open: OUT below the footprint, the table RAMs
being built, and OUT_POS, BIT_POS and OUT_SIZE of a command that writes them may hold anything. -/
structure Raised (e : Err) (s t : State) : Prop where
  /-- R283 -/
  status : t.status = { busy := false, done := false, error := true, code := e.code.num }
  /-- R283 -/
  site : t.regs.errSite = e.site
  /-- R287: no other register changes. -/
  regs : t.regs = { s.regs with errSite := t.regs.errSite, outPos := t.regs.outPos, bitPos := t.regs.bitPos,
                                outSize := t.regs.outSize }
  /-- R260, R287 -/
  positions : inflates s.runningOp = false → t.regs.outPos = s.regs.outPos ∧ t.regs.bitPos = s.regs.bitPos
  /-- R260, R287 -/
  outSize : defilters s.runningOp = false → t.regs.outSize = s.regs.outSize
  /-- R287 -/
  mems : ∀ id, id ≠ .out → ∀ a, t.rd id a = s.rd id a
  /-- R287 -/
  out : ∀ a, s.outFootprint ≤ a → t.rd .out a = s.rd .out a
  /-- R287 -/
  tables : ∀ id, id ∉ s.unspecifiedTables e → t.tables.get id = s.tables.get id
  /-- The engine is at rest, and the host's side is untouched. -/
  rest : t.engine.phase = .idle ∧ t.bus = s.bus ∧ t.rdata = s.rdata ∧ t.params = s.params

end Sys2Proof.Machine
end

