-- ==== Sys2Proof/Certificates/Slice0/Obligations.lean ====
section
/-! DEFINITION. The statements for the provers: what the numbered rules of the spec say an instruction or the machine does. -/

open Sys2Proof Sys2Proof.Machine

namespace Sys2Proof.Claims

/-! ### Words of the statements -/

/-- The bits of a code of `len` bits with value `code`, most significant first, from stream position `k` (R79). -/
def CodeAt (bit : Nat → Nat) (k len code : Nat) : Prop := ∀ i < len, bit (k + i) = code / 2 ^ (len - 1 - i) % 2

/-- R115, as a table: the length and the code value of a literal/length symbol in a fixed block. -/
def fixedCode (sym : Nat) : Nat × Nat :=
  if sym ≤ 143 then (8, 0x30 + sym) else if sym ≤ 255 then (9, 0x190 + (sym - 144))
  else if sym ≤ 279 then (7, sym - 256) else (8, 0xC0 + (sym - 280))

/-- The command instructions and their OP values (R100). -/
def commandWords : List (Instr × Nat) :=
  [(.nop, 0), (.inflateZlib, 1), (.inflateRaw, 2), (.defilter, 3), (.decodeFrame, 4), (.composite, 5), (.buildTable, 6),
   (.creset, 7)] ++ (List.range 8).map (fun k => (.cmdReserved (8 + k), 8 + k))

/-- R200 as a table: a colour format code, its colour type, its bit depth and its bits per pixel. -/
def formats : List (Instr × Nat × Nat × Nat) :=
  [(.fmtGray1, 0, 1, 1), (.fmtGray2, 0, 2, 2), (.fmtGray4, 0, 4, 4), (.fmtGray8, 0, 8, 8), (.fmtGray16, 0, 16, 16),
   (.fmtRgb8, 2, 8, 24), (.fmtRgb16, 2, 16, 48),
   (.fmtIndexed1, 3, 1, 1), (.fmtIndexed2, 3, 2, 2), (.fmtIndexed4, 3, 4, 4), (.fmtIndexed8, 3, 8, 8),
   (.fmtGrayAlpha8, 4, 8, 16), (.fmtGrayAlpha16, 4, 16, 32), (.fmtRgba8, 6, 8, 32), (.fmtRgba16, 6, 16, 64)]

/-- The bits of a register that a host write stores (R22): none of a read-only register, CMD apart. -/
def writable : Reg → Word
  | .ctrl => 0x6
  | .inBase | .inLen | .outSize | .frameW | .frameH | .frameX | .frameY | .frameDelay | .canvasW | .canvasH => 0xFFFFFFFF
  | .color | .frameOps => 0xFFFF
  | .trnsLen | .tblN => 0x1FF
  | .tblSel => 0x3
  | .cmd => 0xF
  | .id | .status | .errSite | .outPos | .bitPos | .bpp | .prevOps | .prevX | .prevY | .prevW | .prevH => 0

/-- R22 and R24 to R46, as a table: a register, a field's lowest bit and width, and the value it reads as. All 32 bits of
every register but ID and BPP are covered; a reserved field and CTRL.SRST read 0. -/
def registerFields (s : State) : List (Reg × Nat × Nat × Nat) :=
  [(.cmd, 0, 4, s.regs.op.toNat), (.cmd, 4, 28, 0),
   (.status, 0, 1, s.status.busy.toNat), (.status, 1, 1, s.status.done.toNat), (.status, 2, 1, s.status.error.toNat),
   (.status, 3, 1, 0), (.status, 4, 4, s.status.code.toNat), (.status, 8, 24, 0),
   (.errSite, 0, 16, s.regs.errSite.toNat), (.errSite, 16, 16, 0),
   (.ctrl, 0, 1, 0), (.ctrl, 1, 2, s.regs.blendMode.toNat), (.ctrl, 3, 29, 0),
   (.inBase, 0, 32, s.regs.inBase.toNat), (.inLen, 0, 32, s.regs.inLen.toNat), (.outSize, 0, 32, s.regs.outSize.toNat),
   (.outPos, 0, 32, s.regs.outPos.toNat), (.bitPos, 0, 32, s.regs.bitPos.toNat),
   (.color, 0, 8, s.regs.colorType.toNat), (.color, 8, 8, s.regs.bitDepth.toNat), (.color, 16, 16, 0),
   (.frameW, 0, 32, s.regs.frameW.toNat), (.frameH, 0, 32, s.regs.frameH.toNat), (.frameX, 0, 32, s.regs.frameX.toNat),
   (.frameY, 0, 32, s.regs.frameY.toNat)] ++
  [(.frameOps, 0, 8, s.regs.dispose.toNat), (.frameOps, 8, 8, s.regs.blend.toNat), (.frameOps, 16, 16, 0),
   (.frameDelay, 0, 16, s.regs.delayNum.toNat), (.frameDelay, 16, 16, s.regs.delayDen.toNat),
   (.canvasW, 0, 32, s.regs.canvasW.toNat), (.canvasH, 0, 32, s.regs.canvasH.toNat),
   (.trnsLen, 0, 9, s.regs.trnsLen.toNat), (.trnsLen, 9, 23, 0),
   (.prevOps, 0, 8, s.regs.prevDispose.toNat), (.prevOps, 8, 24, 0),
   (.prevX, 0, 32, s.regs.prevX.toNat), (.prevY, 0, 32, s.regs.prevY.toNat), (.prevW, 0, 32, s.regs.prevW.toNat),
   (.prevH, 0, 32, s.regs.prevH.toNat),
   (.tblSel, 0, 2, s.regs.tblSel.toNat), (.tblSel, 2, 30, 0), (.tblN, 0, 9, s.regs.tblN.toNat), (.tblN, 9, 23, 0)]

/-- R70: the memory windows: the memory, its first offset and its backed bytes. -/
def windows (p : Params) : List (MemId × Nat × Nat) :=
  [(.pal, 0x1000, 768), (.trns, 0x1400, 256), (.inp, 0x01000000, p.inCap), (.out, 0x02000000, p.outCap),
   (.canvas, 0x03000000, p.canvasCap), (.snap, 0x04000000, p.snapCap)]

/-- R70: some row of the address map backs the offset. -/
def Backed (p : Params) (off : Nat) : Prop :=
  off < 0x100 ∨ (0x2000 ≤ off ∧ off < 0x2900) ∨ ∃ id first cap, (id, first, cap) ∈ windows p ∧ first ≤ off ∧ off < first + cap

/-- R166: the code-length-code lengths, by symbol, of a dynamic header whose 3-bit lengths start at bit `k` and number
`n`. -/
def codeLengthCode (s : State) (k n : Nat) : List Nat :=
  (List.range 19).map (fun sym =>
    if clOrder.idxOf sym < n then s.bitsAt (k + 3 * clOrder.idxOf sym) 3 else 0)

/-- R167 and R168: the lengths a code-length symbol appends, and the cursor after its extra bits; `none` where it raises
an error before it appends any. -/
def codeLengthsOf (s : State) : Instr → Option (List Nat × Nat)
  | .clLen l => some ([l], s.engine.cur)
  | .clRepeatPrev =>
    if s.engine.lens = [] ∨ 8 * s.engine.inlen < s.engine.cur + 2 then none
    else some (List.replicate (3 + s.bitsAt s.engine.cur 2) (s.engine.lens.getLastD 0), s.engine.cur + 2)
  | .clRepeatZeroShort =>
    if 8 * s.engine.inlen < s.engine.cur + 3 then none
    else some (List.replicate (3 + s.bitsAt s.engine.cur 3) 0, s.engine.cur + 3)
  | .clRepeatZeroLong =>
    if 8 * s.engine.inlen < s.engine.cur + 7 then none
    else some (List.replicate (11 + s.bitsAt s.engine.cur 7) 0, s.engine.cur + 7)
  | _ => none

/-- R170: the literal/length lengths of a finished header. -/
def llPart (hlit : Nat) (lens : List Nat) : List Nat :=
  (List.range 288).map (fun k => if k < hlit then lens.getD k 0 else 0)

/-- R170: the distance lengths of a finished header. -/
def distPart (hlit hdist : Nat) (lens : List Nat) : List Nat :=
  (List.range 32).map (fun k => if k < hdist then lens.getD (hlit + k) 0 else 0)

/-- The prediction term of filter type `t` (R205 to R209). -/
def prediction (t a b c : Nat) : Nat :=
  match t with
  | 0 => 0
  | 1 => a
  | 2 => b
  | 3 => (a + b) / 2
  | _ => paeth a b c

/-- The filter instructions and their types (R120). -/
def filters : List (Instr × Nat) := [(.filtNone, 0), (.filtSub, 1), (.filtUp, 2), (.filtAverage, 3), (.filtPaeth, 4)]

/-- R203: `m` is OUT after row `y` of the running frame is reconstructed in place with filter type `t`. -/
def RowReconstructed (t : Nat) (s : State) (m : Mem) : Prop :=
  let lb := lineBytes s.regs.frameW.toNat s.engine.bpp
  let bw := byteWidth s.engine.bpp
  let y := s.engine.row
  let above (i : Nat) : Nat := if y = 0 then 0 else (s.rd .out (lb * (y - 1) + i)).toNat
  (∀ i < lb, Mem.read m (lb * y + i) = BitVec.ofNat 8
    ((s.rd .out ((lb + 1) * y + 1 + i)).toNat +
      prediction t (if bw ≤ i then (Mem.read m (lb * y + (i - bw))).toNat else 0) (above i)
        (if bw ≤ i then above (i - bw) else 0))) ∧
  ∀ a, a < lb * y ∨ lb * y + lb ≤ a → Mem.read m a = s.rd .out a

/-- R212: `m'` is OUT after the compaction of `m`. -/
def Compacted (w h bpp : Nat) (m m' : Mem) : Prop :=
  if bpp < 8 ∧ w * bpp % 8 ≠ 0 then
    ∀ o, m'.bitMsb o =
      if o < w * bpp * h then m.bitMsb (8 * lineBytes w bpp * (o / (w * bpp)) + o % (w * bpp)) else m.bitMsb o
  else ∀ a, Mem.read m' a = Mem.read m a

/-- R222: the checks of COMPOSITE in their order, each with the condition under which it fails. -/
def compositeChecks (s : State) : List (Bool × Err) :=
  let r := s.regs
  let w := r.frameW.toNat
  let h := r.frameH.toNat
  let cw := r.canvasW.toNat
  let ch := r.canvasH.toNat
  let outside (x y w h : Nat) : Bool := cw < x + w || ch < y + h
  [(r.bpp? == none, unformat 0x0B01), (r.colorType.toNat != 3, param 0x0901), (r.blendMode.toNat == 3, param 0x0902),
   (2 < r.dispose.toNat, param 0x0903), (1 < r.blend.toNat, param 0x0904), (w == 0 || h == 0, param 0x0A03),
   (s.params.canvasCap < 4 * cw * ch, param 0x0905), (outside r.frameX.toNat r.frameY.toNat w h, param 0x0906),
   (s.params.outCap < ceilDiv (w * h * r.bitDepth.toNat) 8, param 0x0907),
   ((r.prevDispose.toNat == 1 || r.prevDispose.toNat == 2) &&
      outside r.prevX.toNat r.prevY.toNat r.prevW.toNat r.prevH.toNat, param 0x0908),
   (r.dispose.toNat == 2 && s.params.snapCap < 4 * w * h, nomem 0x0909)]

/-- R80: canvas byte `c` of pixel (x, y). -/
def cpix (s : State) (x y c : Nat) : Byte := s.rd .canvas (4 * (y * s.regs.canvasW.toNat + x) + c)

/-- R81: snapshot byte `c` of pixel (px, py) of a snapshot of width `w`. -/
def spix (s : State) (px py w c : Nat) : Byte := s.rd .snap (4 * (py * w + px) + c)

/-- R223: the palette index of frame pixel (px, py). -/
def pixelIndex (s : State) (px py : Nat) : Nat :=
  let d := s.regs.bitDepth.toNat
  ((List.range d).map (fun k =>
    s.mems.out.bitMsb ((py * s.regs.frameW.toNat + px) * d + k) * 2 ^ (d - 1 - k))).sum

/-- R229: the alpha of palette entry `idx`. -/
def alphaOf (s : State) (idx : Nat) : Nat :=
  if idx < min s.regs.trnsLen.toNat 256 then (s.rd .trns idx).toNat else 255

/-- R229: channel `c` of the texel of palette entry `idx`. -/
def texelOf (s : State) (idx c : Nat) : Nat := if c < 3 then (s.rd .pal (3 * idx + c)).toNat else alphaOf s idx

/-- Canvas pixel (x, y) lies in the current frame's rectangle. -/
def inFrame (s : State) (x y : Nat) : Bool :=
  decide (s.regs.frameX.toNat ≤ x ∧ x < s.regs.frameX.toNat + s.regs.frameW.toNat ∧
    s.regs.frameY.toNat ≤ y ∧ y < s.regs.frameY.toNat + s.regs.frameH.toNat)

/-- Canvas pixel (x, y) lies in the previous frame's rectangle. -/
def inPrev (s : State) (x y : Nat) : Bool :=
  decide (s.regs.prevX.toNat ≤ x ∧ x < s.regs.prevX.toNat + s.regs.prevW.toNat ∧
    s.regs.prevY.toNat ≤ y ∧ y < s.regs.prevY.toNat + s.regs.prevH.toNat)

/-- A pixel byte of the canvas. -/
def onCanvas (s : State) (x y c : Nat) : Prop := x < s.regs.canvasW.toNat ∧ y < s.regs.canvasH.toNat ∧ c < 4

/-- R225 and R226: canvas byte (x, y, c) after step 1 with the dispose code `d`. -/
def afterDispose (s : State) (d x y c : Nat) : Byte :=
  if inPrev s x y && d == 1 then 0
  else if inPrev s x y && d == 2 then
    spix s (x - s.regs.prevX.toNat) (y - s.regs.prevY.toNat) s.regs.prevW.toNat c
  else cpix s x y c

/-- R228 to R232: canvas byte (x, y, c) after step 3, painted over the value `old`: SOURCE where `m` is none, OVER with the
formula `m` where it is some. -/
def afterPaint (s : State) (m : Option BlendMode) (x y c : Nat) (old : Byte) : Byte :=
  if inFrame s x y then
    let idx := pixelIndex s (x - s.regs.frameX.toNat) (y - s.regs.frameY.toNat)
    BitVec.ofNat 8
      (match m with
       | none => texelOf s idx c
       | some m => blendChannel m (texelOf s idx c) (alphaOf s idx) old.toNat)
  else old

/-- No byte of CANVAS outside its 4·CANVAS_W·CANVAS_H pixel bytes changes. -/
def canvasTailKept (s t : State) : Prop :=
  ∀ a, 4 * s.regs.canvasW.toNat * s.regs.canvasH.toNat ≤ a → t.rd .canvas a = s.rd .canvas a

/-- R237: the registers with the current frame recorded as the previous one. -/
def recorded (r : Regs) : Regs :=
  { r with prevDispose := r.dispose, prevX := r.frameX, prevY := r.frameY, prevW := r.frameW, prevH := r.frameH }

/-- `exec` ends in the error `e`. -/
def Raises (i : Instr) (e : Err) (s : State) : Prop := ∃ t, exec i s = .next t ∧ Raised e s t

end Sys2Proof.Claims

open Sys2Proof.Claims

/-! ### Encoding -/

/-- Every well-formed instruction has a word in its own code space, the word fits the space, and decodes to it; so does
every other word a code space has for it (the fixed codes of R115 and R116). R100 to R122. -/
def Obligations.EveryInstructionDecodesFromItsWord : Prop :=
  ∀ i : Instr, i.wf = true → (encode i).isSome = true ∧
    ∀ fmt w, encodeIn fmt i = some w → w < 2 ^ fmt.width ∧ decode fmt w = .ok i

/-- The converse: what decodes is well formed and is encoded by exactly that word, the ignored bits [31:4] of a command
word apart (R100). So no two words of a code space mean one instruction, and none means two. -/
def Obligations.EveryDecodedWordIsTheEncodingOfItsInstruction : Prop :=
  ∀ fmt w i, decode fmt w = .ok i →
    i.wf = true ∧ w < 2 ^ fmt.width ∧ encodeIn fmt i = some (if fmt = .cmd then w % 16 else w)

/-- The decoder and spec/opcode_table.json agree: a word a row covers decodes to that row's mnemonic, a word that decodes
is covered by a row of its mnemonic (the dispose and blend codes are listed once for their several uses), and no two rows
of a code space cover one word. -/
def Obligations.DecoderAgreesWithTheOpcodeTable : Prop :=
  (∀ r ∈ opcodeRows, ∀ w, r.covers w = true → ∃ i, decode r.fmt w = .ok i ∧ i.mnemonic = r.name) ∧
  (∀ fmt w i, decode fmt w = .ok i → fmt ∉ [Format.dispose .restore, .dispose .snap, .blend .paint] →
    ∃ r ∈ opcodeRows, r.fmt = fmt ∧ r.covers w = true ∧ r.name = i.mnemonic) ∧
  (∀ r ∈ opcodeRows, ∀ r' ∈ opcodeRows, ∀ w, r.fmt = r'.fmt → r.covers w = true → r'.covers w = true → r = r')

/-- Words written out from the encodings of 30_encoding.md stand for the instructions the spec gives them. -/
def Obligations.WrittenOutWordsDecode : Prop :=
  decode .cmd 0x12 = .ok .inflateRaw ∧ decode .cmd 0x9 = .ok (.cmdReserved 9) ∧
  decode .blockHdr 0b101 = .ok (.dynamic true) ∧ decode .blockHdr 0b110 = .ok (.btypeReserved false) ∧
  decode .fixedLL8 0b01110001 = .ok (.lit 0x41) ∧ decode .fixedLL7 0b0000000 = .ok .eob ∧
  decode .fixedLL7 0b0000001 = .ok (.len 257) ∧ decode .fixedLL8 0b11000110 = .ok (.llInvalid 286) ∧
  decode .fixedD5 0b11101 = .ok (.dist 29) ∧ decode .fixedD5 0b11110 = .ok (.distInvalid 30) ∧
  decode .clSym 16 = .ok .clRepeatPrev ∧ decode .zlibCmf 0x78 = .ok (.zlibCmfOk 7) ∧
  decode .zlibCmf 0x88 = .error .cmfMethod ∧ decode .zlibFlg 0x9C = .ok (.zlibFlgFdictClear 2 28) ∧
  decode .zlibFlg 0x20 = .error .fdictSet ∧ decode .filterType 4 = .ok .filtPaeth ∧
  decode (.dispose .check) 2 = .ok (.disposePrevious .check) ∧ decode (.blend .paint) 1 = .ok (.blendOver .paint) ∧
  decode .blendMode 2 = .ok .blendModeRefTrunc ∧ decode .tblSel 3 = .ok .tblReserved ∧
  decode .color 0x1006 = .ok .fmtRgba16 ∧ decode .color 0x1003 = .error .unmatchedFormat

/-! ### Tables -/

/-- R110 and R112: the ranges of the length and distance symbols join without gap, up to length 258 and distance 32768;
symbol 284 reaches 258 too, and 285 is 258 alone. -/
def Obligations.LengthAndDistanceRangesJoin : Prop :=
  lbase 257 = 3 ∧ (∀ s, 257 ≤ s → s < 284 → lbase s + 2 ^ lextra s = lbase (s + 1)) ∧
  lbase 284 + (2 ^ lextra 284 - 1) = 258 ∧ lbase 285 = 258 ∧ lextra 285 = 0 ∧
  dbase 0 = 1 ∧ (∀ d < 29, dbase d + 2 ^ dextra d = dbase (d + 1)) ∧ dbase 29 + (2 ^ dextra 29 - 1) = 32768

/-- R146: the code of a symbol is the first code of its length, plus the number of earlier symbols of that length; and
the first code of a length is the running sum, left-shifted, of the counts at shorter nonzero lengths. -/
def Obligations.CanonicalCodesAreConsecutivePerLength : Prop :=
  ∀ lens : List Nat, (∀ l ∈ lens, l ≤ 15) →
    (∀ sym < lens.length, lens.getD sym 0 ≠ 0 →
      (Build.start lens).code.getD sym 0 =
        firstCode (countLengths lens) (lens.getD sym 0) + (lens.take sym).count (lens.getD sym 0)) ∧
    (∀ L, 1 ≤ L → L ≤ 15 →
      firstCode (countLengths lens) L =
        ((List.range L).map (fun l => if l = 0 then 0 else lens.count l * 2 ^ (L - l))).sum)

/-- R144, R147, R149: in the table of any accepted length array, every symbol that has a length decodes to itself along
its code, in as many bits as its length; and no walk of such a table raises 0x0602, whatever the input. -/
def Obligations.AcceptedTablesDecodeEverySymbol : Prop :=
  ∀ (lens : List Nat) (T : List (BitVec 10)) (b : Build), 1 ≤ lens.length → lens.length ≤ 288 → (∀ l ∈ lens, l ≤ 15) →
    buildTable lens = .ok (T, b) →
    (∀ sym bit cur left, sym < lens.length → lens.getD sym 0 ≠ 0 → lens.getD sym 0 ≤ left →
      CodeAt bit cur (lens.getD sym 0) ((Build.start lens).code.getD sym 0) →
      walkTable bit T lens.length left cur 0 = .ok (sym, cur + lens.getD sym 0)) ∧
    (∀ bit cur left, (∀ k, bit k ≤ 1) → walkTable bit T lens.length left cur 0 ≠ .error (malformed 0x0602))

/-- R147 and R150: an array of zero lengths is accepted, its table is all zeros, and every walk decodes symbol 0 from one
bit. -/
def Obligations.EmptyCodesDecodeSymbolZero : Prop :=
  ∀ n, 1 ≤ n → ∃ b, buildTable (List.replicate n 0) = .ok (List.replicate (2 * n) 0, b) ∧
    ∀ bit cur left, (∀ k, bit k ≤ 1) → walkTable bit (List.replicate (2 * n) 0) n (left + 1) cur 0 = .ok (0, cur + 1)

/-- R152: the constant tables are what the builder makes of the fixed lengths, without an error; FLL takes 287 rows and FD
takes 31. -/
def Obligations.FixedTablesAreTheBuiltFixedLengths : Prop :=
  (buildTable fixedLLLens).map (fun r => (r.1, r.2.nodesUsed)) = .ok (fll, 287) ∧
  (buildTable fixedDLens).map (fun r => (r.1, r.2.nodesUsed)) = .ok (fd, 31)

/-- R115 and R116: in a fixed block every symbol is decoded from exactly its fixed code. -/
def Obligations.FixedCodesDecodeTheirSymbols : Prop :=
  (∀ sym < 288, ∀ bit cur left, (fixedCode sym).1 ≤ left → CodeAt bit cur (fixedCode sym).1 (fixedCode sym).2 →
    walkTable bit fll 288 left cur 0 = .ok (sym, cur + (fixedCode sym).1)) ∧
  (∀ sym < 32, ∀ bit cur left, 5 ≤ left → CodeAt bit cur 5 sym →
    walkTable bit fd 32 left cur 0 = .ok (sym, cur + 5))

/-! ### Reading the input -/

/-- R141, R78: a field is its stream bits, the first read least significant, if they are all in the input; if one is
missing the field raises 0x0201. -/
def Obligations.FieldsAreReadLeastSignificantBitFirst : Prop :=
  ∀ (s : State) (w cur : Nat), s.readBits w cur =
    if w = 0 ∨ cur + w ≤ 8 * s.engine.inlen then .ok (s.bitsAt cur w, cur + w) else .error (malformed 0x0201)

/-- R103, R104 and R161: at a block header the next three stream bits are read as one value and nothing else changes;
running out of input raises 0x0201. In that value BFINAL is bit 0 and BTYPE bits [2:1]: the block types 0 to 3 are stored,
fixed, dynamic and reserved. -/
def Obligations.BlockHeadersAreThreeBits : Prop :=
  (∀ s : State, s.engine.phase = .hdr → fetch s =
    if s.engine.cur + 3 ≤ 8 * s.engine.inlen then
      .ok (.blockHdr, s.bitsAt s.engine.cur 3, { s with engine := { s.engine with cur := s.engine.cur + 3 } })
    else .error (malformed 0x0201)) ∧
  (∀ (bfinal : Bool) (btype : Nat) i,
    (btype, i) ∈ [(0, Instr.stored bfinal), (1, .fixed bfinal), (2, .dynamic bfinal), (3, .btypeReserved bfinal)] →
      ∀ h < 8, h % 2 = bfinal.toNat → h / 2 % 4 = btype → decode .blockHdr h = .ok i)

/-- R160, R167, R171, R203, R222: what is read at the other points of a command: a symbol of TCL, of the block's
literal/length table or of its distance table; the filter-type byte at its row's first byte; and the codes of the
registers. -/
def Obligations.EachPhaseReadsItsOwnCode : Prop :=
  ∀ s : State,
    (∀ p fmt n T, (p, fmt, n, T) ∈
        [(Phase.codeLens, Format.clSym, 19, s.tables.tcl.entries),
         (.syms, .llSym, 288, if s.engine.pair = .fixed then fll else s.tables.tll.entries),
         (.dist, .dSym, 32, if s.engine.pair = .fixed then fd else s.tables.td.entries)] →
      s.engine.phase = p →
      (∀ sym cur, walkTable s.streamBit T n (8 * s.engine.inlen - s.engine.cur) s.engine.cur 0 = .ok (sym, cur) →
        fetch s = .ok (fmt, sym, { s with engine := { s.engine with cur := cur } })) ∧
      (∀ e, walkTable s.streamBit T n (8 * s.engine.inlen - s.engine.cur) s.engine.cur 0 = .error e →
        fetch s = .error e)) ∧
    (∀ p fmt w, (p, fmt, w) ∈
        [(Phase.format, Format.color, s.regs.colorType.toNat + 256 * s.regs.bitDepth.toNat),
         (.zlibFlg, .zlibFlg, (s.rd .inp (s.regs.inBase.toNat + 1)).toNat),
         (.filt, .filterType, (s.rd .out ((lineBytes s.regs.frameW.toNat s.engine.bpp + 1) * s.engine.row)).toNat),
         (.blendMode, .blendMode, s.regs.blendMode.toNat), (.disposeCheck, .dispose .check, s.regs.dispose.toNat),
         (.blendCheck, .blend .check, s.regs.blend.toNat), (.disposeRestore, .dispose .restore, s.regs.prevDispose.toNat),
         (.disposeSnap, .dispose .snap, s.regs.dispose.toNat), (.paint, .blend .paint, s.regs.blend.toNat),
         (.tblSel, .tblSel, s.regs.tblSel.toNat)] →
      s.engine.phase = p → fetch s = .ok (fmt, w, s))

/-! ### The machine -/

/-- R22, R310: right after power-on every register reads its reset value, ID aside 0; the engine is idle with no error;
the previous frame is NONE with an empty rectangle. -/
def Obligations.ResetGivesTheTableValues : Prop :=
  (∀ r : Reg, State.reset.readReg r = if r = .id then 0x41500001 else 0) ∧
  State.reset.status = { busy := false, done := false, error := false, code := 0 } ∧
  State.reset.engine.phase = .idle ∧ State.reset.regs.prevDispose = 0 ∧
  State.reset.regs.prevRect = { x := 0, y := 0, w := 0, h := 0 }

/-- The state after reset meets the invariant. The capacities it rests on are the model's choice (log 1). -/
def Obligations.ResetMeetsTheInvariant : Prop := State.reset.Inv

/-- From every state that meets the invariant, a step gives a state that meets it: memories canonical and within their
capacities, table RAMs of their sizes, STATUS coherent with ERR_SITE, PREV_DISPOSE at most 2 (R237), and a running command
within the bounds its checks gave it (R88). -/
def Obligations.EveryStepKeepsTheInvariant : Prop := ∀ s t : State, s.Inv → step s = .next t → t.Inv

/-- R88: no step of a state that meets the invariant faults: no access of the engine lies outside the payload or the
output buffer, and every word it reads is an instruction or raises an error of the spec. A refusal comes only from an
access of the host. -/
def Obligations.NoStepFaults : Prop :=
  ∀ s : State, s.Inv → (∀ f, step s ≠ .fault f) ∧ (s.bus = [] → ∃ t, step s = .next t)

/-- R331: every command terminates, within a bound that its input and output sizes give. -/
def Obligations.EveryCommandTerminates : Prop :=
  ∀ s : State, s.Inv → s.status.busy = true → s.bus = [] →
    ∃ k ≤ 8 * s.params.inCap + s.params.outCap + 16, ∃ t, core.run k s = .next t ∧ t.status.busy = false

/-- R260, R185, R215, R241, R287: what one step of a running command may change. IN, PAL, TRNS, the host-written registers
and CMD.OP never; CANVAS only COMPOSITE's two rectangles and SNAP only its 4·W·H bytes; OUT only below the command's
footprint, and never COMPOSITE's or BUILD_TABLE's; the table RAMs only an inflate command's, and the selected one
BUILD_TABLE's; the result registers only those of the command's row of R260. -/
def Obligations.EngineWritesOnlyItsFootprint : Prop :=
  ∀ s t : State, s.inBounds = true → engineStep s = .next t →
    (∀ id ∈ [MemId.inp, .pal, .trns], ∀ a, t.rd id a = s.rd id a) ∧
    (s.runningOp ≠ 5 → ∀ id ∈ [MemId.canvas, .snap], ∀ a, t.rd id a = s.rd id a) ∧
    (∀ x y c, x < s.regs.canvasW.toNat → c < 4 → inFrame s x y = false → inPrev s x y = false →
      cpix t x y c = cpix s x y c) ∧
    (∀ a, s.regs.dispose ≠ 2 ∨ 4 * s.regs.frameW.toNat * s.regs.frameH.toNat ≤ a → t.rd .snap a = s.rd .snap a) ∧
    (s.runningOp = 5 ∨ s.runningOp = 6 → ∀ a, t.rd .out a = s.rd .out a) ∧
    (∀ a, s.outFootprint ≤ a → t.rd .out a = s.rd .out a) ∧
    (s.runningOp = 3 ∨ s.runningOp = 5 → t.tables = s.tables) ∧
    (s.runningOp = 6 → ∀ id : TableId, s.regs.tblSel.toNat ≠ (match id with | .tll => 0 | .td => 1 | .tcl => 2) →
      t.tables.get id = s.tables.get id) ∧
    t.regs = { s.regs with errSite := t.regs.errSite, outPos := t.regs.outPos, bitPos := t.regs.bitPos,
                           outSize := t.regs.outSize, prevDispose := t.regs.prevDispose, prevX := t.regs.prevX,
                           prevY := t.regs.prevY, prevW := t.regs.prevW, prevH := t.regs.prevH } ∧
    (t.status.error = false → t.regs.errSite = s.regs.errSite) ∧
    (inflates s.runningOp = false → t.regs.outPos = s.regs.outPos ∧ t.regs.bitPos = s.regs.bitPos) ∧
    (defilters s.runningOp = false → t.regs.outSize = s.regs.outSize) ∧
    (s.runningOp ≠ 5 → t.regs.prevDispose = s.regs.prevDispose ∧ t.regs.prevRect = s.regs.prevRect) ∧
    t.bus = s.bus ∧ t.rdata = s.rdata ∧ t.params = s.params

/-- R142, R55, R182, R331: an element of the Inflate that raises no error consumes at least one input bit, never takes
output back, changes no output byte before the old `pos` or from the new one on, and leaves the input's bounds and the
capacity alone. -/
def Obligations.InflateElementsOnlyAdvance : Prop :=
  ∀ s t : State, s.inBounds = true → s.engine.phase ∈ [Phase.hdr, .codeLens, .syms, .dist] →
    engineStep s = .next t → t.status.error = false → s.status.error = false →
    s.engine.cur < t.engine.cur ∧ s.engine.pos ≤ t.engine.pos ∧ t.engine.pos ≤ t.engine.cap ∧
    t.engine.inbase = s.engine.inbase ∧ t.engine.inlen = s.engine.inlen ∧ t.engine.cap = s.engine.cap ∧
    ∀ a, a < s.engine.pos ∨ t.engine.pos ≤ a → t.rd .out a = s.rd .out a

/-- R284, R285, R291: in the ERROR state every step keeps STATUS and ERR_SITE, unless it is the host's soft reset, which
clears them. -/
def Obligations.TheErrorStateIsAbsorbing : Prop :=
  ∀ s t : State, s.Inv → s.status.error = true → step s = .next t →
    (t.status = s.status ∧ t.regs.errSite = s.regs.errSite) ∨
    (t.status = Status.reset ∧ t.regs = Regs.reset ∧
      ∃ n a v rest, s.bus = { after := n, op := .write .b4 a v } :: rest ∧ v.getLsbD 0 = true ∧
        locate s.params (busOffset s.params a) = some (.reg Reg.ctrl.offset))

/-- A step of a running command with the host quiet reads the next word and runs the instruction it decodes to; a word
that is none raises its error (R191, R192, R201), and so does a word that cannot be read. -/
def Obligations.StepRunsTheDecodedElement : Prop :=
  ∀ s : State, s.status.busy = true → s.inBounds = true → s.bus = [] →
    (∀ fmt w t i, fetch s = .ok (fmt, w, t) → decode fmt w = .ok i → step s = exec i t) ∧
    (∀ fmt w t r e, fetch s = .ok (fmt, w, t) → decode fmt w = .error r → rejectError r = some e →
      step s = .next (raise e t)) ∧
    (∀ e, fetch s = .error e → step s = .next (raise e s))

/-- R20, R24, R250, R299: with no command running, a step performs the host's oldest access, a 32-bit write of `v` to CMD
running the instruction the command word `v` decodes to; with none queued the machine holds its state. While a command
runs, an access whose count is not 0, and WAIT, let the engine's next element go first. -/
def Obligations.StepServesTheHostInOrder : Prop :=
  (∀ s : State, s.status.busy = false → s.bus = [] → step s = .next s) ∧
  (∀ (s : State) r rest, s.status.busy = false → s.bus = r :: rest → step s = hostAccess r.op { s with bus := rest }) ∧
  (∀ (s : State) n v i rest, s.status.busy = false →
    s.bus = { after := n, op := .write .b4 (s.params.base + 4) v } :: rest → decode .cmd v.toNat = .ok i →
    step s = exec i { s with bus := rest }) ∧
  (∀ (s : State) n op rest, s.status.busy = true → s.bus = { after := n + 1, op := op } :: rest →
    step s = engineStep { s with bus := { after := n, op := op } :: rest }) ∧
  (∀ (s : State) rest, s.status.busy = true → s.bus = { after := 0, op := .wait } :: rest → step s = engineStep s) ∧
  (∀ (s : State) op rest, op ≠ .wait → s.status.busy = true → s.bus = { after := 0, op := op } :: rest →
    step s = hostAccess op { s with bus := rest })

/-! ### The host's side -/

/-- R23: ID always reads 0x4150_0001. -/
def Obligations.IdAlwaysReadsItsConstant : Prop :=
  ∀ s : State, s.readReg .id = 0x41500001 ∧
    (s.status.busy = false → hostAccess (rd32 s.params .id) s = .next { s with rdata := 0x41500001 })

/-- R37, R200: BPP is at every instant the bits per pixel of a matched COLOR, and 0 for an unmatched one. -/
def Obligations.BppIsDerivedFromColor : Prop :=
  ∀ s : State,
    (∀ i ct d bpp, (i, ct, d, bpp) ∈ formats → s.regs.colorType.toNat = ct → s.regs.bitDepth.toNat = d →
      (s.readReg .bpp).toNat = bpp) ∧
    ((∀ i ct d bpp, (i, ct, d, bpp) ∈ formats → ¬ (s.regs.colorType.toNat = ct ∧ s.regs.bitDepth.toNat = d)) →
      s.readReg .bpp = 0)

/-- R22, R24 to R46: while no command runs, a 32-bit write to a register other than CMD, and other than a soft reset, stores
the value's writable bits there; read-only registers and reserved bits ignore it; no other register but the derived BPP
changes, and nothing else does. -/
def Obligations.RegisterWritesStoreTheWritableBits : Prop :=
  ∀ (s : State) (r : Reg) (v : Word), s.status.busy = false → r ≠ .cmd → ¬ (r = .ctrl ∧ v.getLsbD 0 = true) →
    ∃ t, hostAccess (wr32 s.params r v) s = .next t ∧
      t.readReg r = (v &&& writable r) ||| (s.readReg r &&& ~~~ writable r) ∧
      (∀ r', r' ≠ r → r' ≠ .bpp → t.readReg r' = s.readReg r') ∧
      t.mems = s.mems ∧ t.tables = s.tables ∧ t.status = s.status ∧ t.engine = s.engine ∧ t.bus = s.bus ∧
      t.rdata = s.rdata ∧ t.params = s.params

/-- R71, R73, R76: a naturally aligned access of 1, 2 or 4 bytes within a memory's backed bytes: a write stores its bytes,
least significant at the lowest address, and no other byte or state; a read then gives them back. That a narrow read leaves
the bits of the read data above its width 0 is the model's choice (log 15). -/
def Obligations.MemoryWindowsAreLittleEndian : Prop :=
  ∀ (s : State) (id : MemId) (first cap : Nat) (w : Width) (a : Nat) (v : Word), s.params.wf → s.status.busy = false →
    (id, first, cap) ∈ windows s.params → a % w.bytes = 0 → a + w.bytes ≤ cap →
    ∃ t, hostAccess (.write w (s.params.base + BitVec.ofNat 32 (first + a)) v) s = .next t ∧
      (∀ k < w.bytes, t.rd id (a + k) = v.extractLsb' (8 * k) 8) ∧
      (∀ id' a', id' ≠ id ∨ a' < a ∨ a + w.bytes ≤ a' → t.rd id' a' = s.rd id' a') ∧
      t.regs = s.regs ∧ t.status = s.status ∧ t.tables = s.tables ∧ t.engine = s.engine ∧ t.bus = s.bus ∧
      t.rdata = s.rdata ∧ t.params = s.params ∧
      hostAccess (.read w (s.params.base + BitVec.ofNat 32 (first + a))) t =
        .next { t with rdata := BitVec.ofNat 32 (v.toNat % 256 ^ w.bytes) }

/-- R72: a 32-bit read of the table window gives the entry of the RAM TBL_SEL selects, zero-extended; 0 beyond that RAM,
and always with TBL_SEL = 3; a write there changes nothing. -/
def Obligations.TheTableWindowShowsTheSelectedRam : Prop :=
  ∀ (s : State) (e : Nat), s.tablesWf → s.status.busy = false → e < 576 →
    (∀ id : TableId, s.regs.tblSel.toNat = (match id with | .tll => 0 | .td => 1 | .tcl => 2) →
      hostAccess (rd32Tbl s.params (4 * e)) s =
        .next { s with rdata := if e < 2 * id.nmax then ((s.tables.get id).entries.getD e 0).setWidth 32 else 0 }) ∧
    (s.regs.tblSel.toNat = 3 → hostAccess (rd32Tbl s.params (4 * e)) s = .next { s with rdata := 0 }) ∧
    (∀ v, hostAccess (.write .b4 (s.params.base + BitVec.ofNat 32 (0x2000 + 4 * e)) v) s = .next s)

/-- R87: a read has no side effect but the data it returns. R22 to R29, R31 to R46: with no command running, a 32-bit read of
a register completes and returns it, each field at its bits and 0 in every reserved bit (`registerFields`). What ID
and BPP read as is said by `IdAlwaysReadsItsConstant` and `BppIsDerivedFromColor`. -/
def Obligations.HostReadsHaveNoSideEffect : Prop :=
  (∀ (s t : State) w a, hostAccess (.read w a) s = .next t → ∃ d, t = { s with rdata := d }) ∧
  (∀ (s : State) (r : Reg), s.status.busy = false →
    hostAccess (rd32 s.params r) s = .next { s with rdata := s.readReg r }) ∧
  (∀ (s : State) r lo width value, (r, lo, width, value) ∈ registerFields s →
    (s.readReg r).toNat / 2 ^ lo % 2 ^ width = value)

/-- R320 and R321: while a command runs the host may read ID, STATUS and ERR_SITE, which give BUSY = 1 and ERR_SITE as it
stands, and may reset; a write to CMD or a write to CTRL with bit 0 = 0 is ignored; every other access, of any width and at
any address, is refused. The refusal's name is the model's (log 11), and that it is `busyAccess` also for an access that is
misaligned, of a wrong width or unmapped is the model's choice (log 21). -/
def Obligations.BusyAccessesAreRestricted : Prop :=
  ∀ s : State, s.status.busy = true →
    (∀ r ∈ [Reg.id, .status, .errSite],
      hostAccess (rd32 s.params r) s = .next { s with rdata := s.readReg r }) ∧
    (s.readReg .status).getLsbD 0 = true ∧ s.readReg .errSite = s.regs.errSite.setWidth 32 ∧
    (∀ v, hostAccess (wr32 s.params .cmd v) s = .next s) ∧
    (∀ v : Word, v.getLsbD 0 = false → hostAccess (wr32 s.params .ctrl v) s = .next s) ∧
    (∀ v : Word, v.getLsbD 0 = true → hostAccess (wr32 s.params .ctrl v) s = .next (softReset s)) ∧
    (∀ (w : Width) (a : Word), ¬ (w = .b4 ∧ busOffset s.params a ∈ [0x000, 0x008, 0x00C]) →
      hostAccess (.read w a) s = .refused .busyAccess) ∧
    (∀ (w : Width) (a v : Word), ¬ (w = .b4 ∧ busOffset s.params a ∈ [0x004, 0x010]) →
      hostAccess (.write w a v) s = .refused .busyAccess)

/-- R74, R75, R76: while no command runs, an access to an offset that no row of the map backs is refused, and so is one of
a width or an alignment its window does not accept, or past the end of the backed bytes; the register offsets 0x070 to 0x0FC
read 0 and ignore writes. -/
def Obligations.UnbackedAndMisalignedAccessesAreRefused : Prop :=
  ∀ (s : State) (w : Width) (a v : Word), s.params.wf → s.status.busy = false →
    let off := busOffset s.params a
    (¬ Backed s.params off →
      hostAccess (.read w a) s = .refused .unmapped ∧ hostAccess (.write w a v) s = .refused .unmapped) ∧
    (off < 0x100 ∨ (0x2000 ≤ off ∧ off < 0x2900) → w ≠ .b4 ∨ off % 4 ≠ 0 →
      hostAccess (.read w a) s = .refused .badAccess ∧ hostAccess (.write w a v) s = .refused .badAccess) ∧
    (∀ id first cap, (id, first, cap) ∈ windows s.params → first ≤ off → off < first + cap →
      off % w.bytes ≠ 0 ∨ first + cap < off + w.bytes →
      hostAccess (.read w a) s = .refused .badAccess ∧ hostAccess (.write w a v) s = .refused .badAccess) ∧
    (0x070 ≤ off → off < 0x100 → off % 4 = 0 → w = .b4 →
      hostAccess (.read w a) s = .next { s with rdata := 0 } ∧ hostAccess (.write w a v) s = .next s)

/-- R311, R312, R291: a write to CTRL with bit 0 = 1 gives every register its reset value and ends the ERROR state and any
running command. Memories and table RAMs are kept, except what the command it abandons may write (R260): OUT below its
footprint and the table RAMs for an inflate command, OUT below its footprint for DEFILTER, CANVAS within the two rectangles
and SNAP[0 .. 4·W·H − 1] for COMPOSITE, the selected RAM for BUILD_TABLE. Both canvases are addressed with the CANVAS_W of
before the reset (R80), which the reset clears. That an abandoned command leaves the rest of a memory alone is the model's
reading of R260 and R311 (log 12). -/
def Obligations.SoftResetRestoresTheRegisters : Prop :=
  ∀ (s : State) (v : Word), v.getLsbD 0 = true →
    ∃ t, hostAccess (wr32 s.params .ctrl v) s = .next t ∧
      t.regs = State.reset.regs ∧ t.status = State.reset.status ∧ t.engine.phase = .idle ∧
      t.bus = s.bus ∧ t.rdata = s.rdata ∧ t.params = s.params ∧
      (s.status.busy = false → t.mems = s.mems ∧ t.tables = s.tables) ∧
      (∀ id ∈ [MemId.inp, .pal, .trns], ∀ a, t.rd id a = s.rd id a) ∧
      (s.runningOp ≠ 5 → ∀ id ∈ [MemId.canvas, .snap], ∀ a, t.rd id a = s.rd id a) ∧
      (s.runningOp = 5 → canvasTailKept s t ∧
        ∀ x y c, onCanvas s x y c → inFrame s x y = false → inPrev s x y = false →
          t.rd .canvas (4 * (y * s.regs.canvasW.toNat + x) + c) = cpix s x y c) ∧
      (s.runningOp = 5 → ∀ a, 4 * s.regs.frameW.toNat * s.regs.frameH.toNat ≤ a → t.rd .snap a = s.rd .snap a) ∧
      (∀ a, s.outFootprint ≤ a → t.rd .out a = s.rd .out a) ∧
      (s.runningOp = 3 ∨ s.runningOp = 5 → t.tables = s.tables) ∧
      (s.runningOp = 6 → ∀ id : TableId, s.regs.tblSel.toNat ≠ (match id with | .tll => 0 | .td => 1 | .tcl => 2) →
        t.tables.get id = s.tables.get id)

/-! ### Commands -/

/-- R259, R321: NOP stores OP = 0 and has no other effect, in every state but BUSY, in which the write is ignored. -/
def Obligations.NopOnlyStoresItsOp : Prop :=
  ∀ s : State, (s.status.busy = false → exec .nop s = .next { s with regs := { s.regs with op := 0 } }) ∧
    (s.status.busy = true → exec .nop s = .next s)

/-- R250, R251 to R256, R263: with no error set and its prechecks passed, a command stores its OP, clears DONE, sets BUSY,
and goes to its first element; nothing else changes but the working registers it sets. -/
def Obligations.CommandsStart : Prop :=
  ∀ s : State, s.idle →
    (s.regs.inBase.toNat + s.regs.inLen.toNat ≤ s.params.inCap →
      (s.regs.outSize.toNat ≤ s.params.outCap →
        exec .inflateZlib s = .next { s.started 1 with
          engine := { s.engine with phase := .zlibCmf, cap := s.regs.outSize.toNat } } ∧
        exec .inflateRaw s = .next { s.started 2 with
          engine := { s.engine with phase := .hdr, cur := 0, pos := 0, inbase := s.regs.inBase.toNat,
                                    inlen := s.regs.inLen.toNat, cap := s.regs.outSize.toNat } }) ∧
      exec .decodeFrame s = .next { s.started 4 with engine := { s.engine with phase := .format } }) ∧
    exec .defilter s = .next { s.started 3 with engine := { s.engine with phase := .format } } ∧
    exec .composite s = .next { s.started 5 with engine := { s.engine with phase := .format } } ∧
    exec .buildTable s = .next { s.started 6 with engine := { s.engine with phase := .tblSel } }

/-- R263, R251, R252, R254, R286: the prechecks of the inflate commands, in their order: the payload against IN, then the
requested buffer against OUT. -/
def Obligations.InflateCommandsCheckTheirBuffers : Prop :=
  ∀ (s : State) (i : Instr) (op : Nat), (i, op) ∈ [(Instr.inflateZlib, 1), (.inflateRaw, 2), (.decodeFrame, 4)] → s.idle →
    (s.params.inCap < s.regs.inBase.toNat + s.regs.inLen.toNat →
      ∃ t, exec i s = .next t ∧ Raised (param 0x0A01) (s.started (BitVec.ofNat 4 op)) t) ∧
    (s.regs.inBase.toNat + s.regs.inLen.toNat ≤ s.params.inCap → op ≠ 4 → s.params.outCap < s.regs.outSize.toNat →
      ∃ t, exec i s = .next t ∧ Raised (nomem 0x0A02) (s.started (BitVec.ofNat 4 op)) t)

/-- R261, R321: while ERROR is set a command word only stores its OP; while BUSY it changes nothing. -/
def Obligations.CommandWordsAreIgnoredInErrorAndBusy : Prop :=
  ∀ (s : State) (i : Instr) (op : Nat), (i, op) ∈ commandWords →
    (s.status.busy = false → s.status.error = true →
      exec i s = .next { s with regs := { s.regs with op := BitVec.ofNat 4 op } }) ∧
    (s.status.busy = true → exec i s = .next s)

/-- R257, R238: CRESET clears PREV_OPS, PREV_X, PREV_Y, PREV_W and PREV_H and ends with DONE; CANVAS, SNAP and everything
else are untouched. -/
def Obligations.CresetClearsThePreviousFrame : Prop :=
  ∀ s : State, s.idle →
    exec .creset s = .next { s with
      status := { s.status with busy := false, done := true },
      regs := { s.regs with op := 7, prevDispose := 0, prevX := 0, prevY := 0, prevW := 0, prevH := 0 },
      engine := { s.engine with phase := .idle } }

/-- R258: a reserved OP value raises PARAM(0x0A00), and no other state changes except CMD.OP, STATUS and ERR_SITE. -/
def Obligations.ReservedCommandsRaise : Prop :=
  ∀ (s : State) (op : Nat), s.idle → s.engine.phase = .idle → 8 ≤ op → op ≤ 15 →
    ∃ t, exec (.cmdReserved op) s = .next t ∧
      t.status = { busy := false, done := false, error := true, code := 8 } ∧
      t.regs = { s.regs with op := BitVec.ofNat 4 op, errSite := 0x0A00 } ∧
      (∀ id a, t.rd id a = s.rd id a) ∧ t.tables = s.tables ∧ t.engine.phase = .idle ∧
      t.bus = s.bus ∧ t.rdata = s.rdata ∧ t.params = s.params

/-- R124, R283: the illegal codes of the stream and of the registers raise their error, whatever the state: BTYPE 3 (R162),
literal/length symbols 286 and 287 (R178), distance symbols 30 and 31 (R175), filter types above 4 (R204), dispose codes
above 2, blend codes above 1 and BLEND_MODE 3 at COMPOSITE's checks (R222), TBL_SEL 3 (R256). -/
def Obligations.IllegalCodesRaiseTheirErrors : Prop :=
  ∀ (s : State),
    (∀ b, Raises (.btypeReserved b) (malformed 0x0202) s) ∧ (∀ sym, Raises (.llInvalid sym) (malformed 0x0702) s) ∧
    (∀ d, Raises (.distInvalid d) (malformed 0x0703) s) ∧ (∀ v, Raises (.filtInvalid v) (malformed 0x0801) s) ∧
    (∀ v, Raises (.disposeInvalid .check v) (param 0x0903) s) ∧ (∀ v, Raises (.blendInvalid .check v) (param 0x0904) s) ∧
    Raises .blendModeReserved (param 0x0902) s ∧ Raises .tblReserved (param 0x0C01) s

/-- R200, R202, R253, R254, R221: a matched format lets the command that needed it go on with its bits per pixel: DEFILTER
to its first row, DECODE_FRAME with OUT_SIZE ← S to its zlib header, COMPOSITE to its blend mode if the format is indexed;
or raises the next failing check: an empty frame, S beyond OUT, a format that is not indexed. R201: at its format check a
command that finds the pair unmatched raises UNFORMAT(0x0B01). -/
def Obligations.FormatsAreMatchedOrRejected : Prop :=
  (∀ s : State, s.inBounds = true → s.engine.phase = .format →
    formatBpp s.regs.colorType.toNat s.regs.bitDepth.toNat = none →
    ∃ t, engineStep s = .next t ∧ Raised (unformat 0x0B01) s t) ∧
  ∀ (s : State) (i : Instr) (ct d bpp : Nat), (i, ct, d, bpp) ∈ formats →
    decode .color (ct + 256 * d) = .ok i ∧ formatBpp ct d = some bpp ∧
    (let w := s.regs.frameW.toNat
     let h := s.regs.frameH.toNat
     let size := (ceilDiv (w * bpp) 8 + 1) * h
     (s.runningOp = 3 →
       (w = 0 ∨ h = 0 → Raises i (param 0x0A03) s) ∧
       (1 ≤ w → 1 ≤ h → s.params.outCap < size → Raises i (param 0x0A04) s) ∧
       (1 ≤ w → 1 ≤ h → size ≤ s.params.outCap →
         exec i s = .next { s with engine := { s.engine with phase := .filt, bpp := bpp, row := 0 } })) ∧
     (s.runningOp = 4 →
       (w = 0 ∨ h = 0 → Raises i (param 0x0A03) s) ∧
       (1 ≤ w → 1 ≤ h → s.params.outCap < size → Raises i (nomem 0x0A05) s) ∧
       (1 ≤ w → 1 ≤ h → size ≤ s.params.outCap →
         exec i s = .next { s with regs := { s.regs with outSize := BitVec.ofNat 32 size },
                                   engine := { s.engine with phase := .zlibCmf, bpp := bpp, cap := size } })) ∧
     (s.runningOp = 5 →
       (ct = 3 → exec i s = .next { s with engine := { s.engine with phase := .blendMode, bpp := bpp } }) ∧
       (ct ≠ 3 → Raises i (param 0x0901) s)))

/-! ### The zlib wrapper -/

/-- R195, R190 to R196: the header's checks in their order, over the two steps that read CMF and FLG; a valid header starts
the Inflate two bytes into the payload. CINFO within 0 to 7 and FLEVEL have no effect (R193). -/
def Obligations.ZlibHeadersAreChecked : Prop :=
  (∀ s : State, s.inBounds = true →
    let cmf := (s.rd .inp s.regs.inBase.toNat).toNat
    let flg := (s.rd .inp (s.regs.inBase.toNat + 1)).toNat
    (s.engine.phase = .zlibCmf →
      (s.regs.inLen.toNat < 2 → ∃ t, engineStep s = .next t ∧ Raised (malformed 0x0101) s t) ∧
      (2 ≤ s.regs.inLen.toNat → (cmf * 256 + flg) % 31 ≠ 0 →
        ∃ t, engineStep s = .next t ∧ Raised (malformed 0x0102) s t) ∧
      (2 ≤ s.regs.inLen.toNat → (cmf * 256 + flg) % 31 = 0 → cmf % 16 ≠ 8 ∨ 7 < cmf / 16 →
        ∃ t, engineStep s = .next t ∧ Raised (malformed 0x0103) s t) ∧
      (2 ≤ s.regs.inLen.toNat → (cmf * 256 + flg) % 31 = 0 → cmf % 16 = 8 → cmf / 16 ≤ 7 →
        engineStep s = .next { s with engine := { s.engine with phase := .zlibFlg } })) ∧
    (s.engine.phase = .zlibFlg →
      (flg / 32 % 2 = 1 → ∃ t, engineStep s = .next t ∧ Raised (malformed 0x0104) s t) ∧
      (flg / 32 % 2 = 0 → engineStep s = .next { s with
        engine := { s.engine with phase := .hdr, cur := 0, pos := 0, inbase := s.regs.inBase.toNat + 2,
                                  inlen := s.regs.inLen.toNat - 2 } }))) ∧
  (∀ (s : State) cinfo flevel fcheck,
    exec (.zlibCmfOk cinfo) s = .next { s with engine := { s.engine with phase := .zlibFlg } } ∧
    exec (.zlibFlgFdictClear flevel fcheck) s = .next { s with
      engine := { s.engine with phase := .hdr, cur := 0, pos := 0, inbase := s.regs.inBase.toNat + 2,
                                inlen := s.regs.inLen.toNat - 2 } })

/-! ### Inflate -/

/-- R163, R105, R164: a stored block skips to the byte boundary, checks its header, its complement, its data's presence and
its room in that order, copies its bytes verbatim to OUT from `pos`, and ends. Where it is the final block of a DECODE_FRAME
and leaves the output short of its buffer, the command raises 0x0A06 (R264). -/
def Obligations.StoredBlocksCopyTheirBytes : Prop :=
  ∀ (b : Bool) (s : State),
    let p := (s.engine.cur + 7) / 8
    let byte (k : Nat) : Nat := (s.rd .inp (s.engine.inbase + k)).toNat
    let len := byte p + 256 * byte (p + 1)
    let nlen := byte (p + 2) + 256 * byte (p + 3)
    let e := { s.engine with bfinal := b, btype := 0, pos := s.engine.pos + len, cur := (p + 4 + len) * 8 }
    (s.engine.inlen < p + 4 → Raises (.stored b) (malformed 0x0301) s) ∧
    (p + 4 ≤ s.engine.inlen → len ≠ nlen ^^^ 0xFFFF → Raises (.stored b) (malformed 0x0302) s) ∧
    (p + 4 ≤ s.engine.inlen → len = nlen ^^^ 0xFFFF → s.engine.inlen < p + 4 + len →
      Raises (.stored b) (malformed 0x0303) s) ∧
    (p + 4 + len ≤ s.engine.inlen → len = nlen ^^^ 0xFFFF → s.engine.cap < s.engine.pos + len →
      Raises (.stored b) (malformed 0x0304) s) ∧
    (p + 4 + len ≤ s.engine.inlen → len = nlen ^^^ 0xFFFF → s.engine.pos + len ≤ s.engine.cap →
      b = true → s.runningOp = 4 → s.engine.pos + len ≠ s.engine.cap → Raises (.stored b) (malformed 0x0A06) s) ∧
    (p + 4 + len ≤ s.engine.inlen → len = nlen ^^^ 0xFFFF → s.engine.pos + len ≤ s.engine.cap →
      (b = true → s.runningOp = 4 → s.engine.pos + len = s.engine.cap) →
      ∃ t, exec (.stored b) s = .next t ∧ BlockEnded b e s t ∧ Keeps [.out] [] s t ∧
        ∀ a, t.rd .out a = if s.engine.pos ≤ a ∧ a < s.engine.pos + len
          then s.rd .inp (s.engine.inbase + p + 4 + (a - s.engine.pos)) else s.rd .out a)

/-- R183, R163, R252, R250: INFLATE_RAW on one final stored block that fits its buffer ends with DONE, OUT_POS the block's
length and BIT_POS the bits consumed, and OUT holds exactly the embedded bytes; nothing else the host can see changes but
CMD.OP. -/
def Obligations.AStoredStreamYieldsItsBytes : Prop :=
  ∀ (s : State) (data : List Byte), s.Inv → s.idle → s.bus = [] → data.length < 65536 →
    s.regs.inBase.toNat + s.regs.inLen.toNat ≤ s.params.inCap → 5 + data.length ≤ s.regs.inLen.toNat →
    data.length ≤ s.regs.outSize.toNat → s.regs.outSize.toNat ≤ s.params.outCap →
    s.rd .inp s.regs.inBase.toNat = 1 →
    s.rd .inp (s.regs.inBase.toNat + 1) = BitVec.ofNat 8 data.length →
    s.rd .inp (s.regs.inBase.toNat + 2) = BitVec.ofNat 8 (data.length / 256) →
    s.rd .inp (s.regs.inBase.toNat + 3) = ~~~ BitVec.ofNat 8 data.length →
    s.rd .inp (s.regs.inBase.toNat + 4) = ~~~ BitVec.ofNat 8 (data.length / 256) →
    (∀ k < data.length, s.rd .inp (s.regs.inBase.toNat + 5 + k) = data.getD k 0) →
    ∃ t, core.run 2 { s with bus := [{ after := 0, op := wr32 s.params .cmd 2 }] } = .next t ∧
      t.status = { busy := false, done := true, error := false, code := s.status.code } ∧
      t.regs = { s.regs with op := 2, outPos := BitVec.ofNat 32 data.length,
                             bitPos := BitVec.ofNat 32 (8 * (5 + data.length)) } ∧
      Keeps [.out] [] s t ∧ (∀ k < data.length, t.rd .out k = data.getD k 0) ∧
      (∀ a, data.length ≤ a → t.rd .out a = s.rd .out a)

/-- R165: a fixed block selects FLL and FD and goes to its symbols; it reads no more header and changes no table RAM.
R166, R106, R107: a dynamic header's counts and code-length-code lengths are read, TCL is built from the lengths in
their permuted order, and the code lengths are read next; a missing bit or a failing build raises its error. -/
def Obligations.HuffmanBlockHeadersPrepareTheirTables : Prop :=
  ∀ (b : Bool) (s : State),
    let c := s.engine.cur
    let n := s.bitsAt (c + 10) 4 + 4
    let lens := codeLengthCode s (c + 14) n
    exec (.fixed b) s = .next { s with
      engine := { s.engine with bfinal := b, btype := 1, phase := .syms, pair := .fixed } } ∧
    (8 * s.engine.inlen < c + 14 ∨ 8 * s.engine.inlen < c + 14 + 3 * n → Raises (.dynamic b) (malformed 0x0201) s) ∧
    (c + 14 + 3 * n ≤ 8 * s.engine.inlen → ∀ e, buildTable lens = .error e →
      Raises (.dynamic b) { e with tables := [.tcl] } s) ∧
    (c + 14 + 3 * n ≤ 8 * s.engine.inlen → ∀ T w, buildTable lens = .ok (T, w) →
      exec (.dynamic b) s = .next { s with
        tables := s.tables.set .tcl { entries := T ++ s.tables.tcl.entries.drop T.length, n := 19 },
        engine := { s.engine with bfinal := b, btype := 2, phase := .codeLens, pair := .dynamic, cur := c + 14 + 3 * n,
                                  hlit := s.bitsAt c 5 + 257, hdist := s.bitsAt (c + 5) 5 + 1, hclen := n,
                                  clLen := lens, lens := [], build := w } })

/-- R167, R168, R169, R170: a code-length symbol appends its lengths. Short of hlit + hdist the next symbol follows; with
exactly all of them TLL and then TD are built from the two parts, padded with zeros, and the block's symbols follow. A
symbol 16 with no previous length, a missing extra bit, a repeat past the end, and a failing build raise their errors. -/
def Obligations.CodeLengthSymbolsFillTheLengths : Prop :=
  ∀ (s : State) (i : Instr),
    let total := s.engine.hlit + s.engine.hdist
    (i = .clRepeatPrev → s.engine.lens = [] → Raises i (malformed 0x0401) s) ∧
    (∀ k, (i, k) ∈ [(Instr.clRepeatPrev, 2), (.clRepeatZeroShort, 3), (.clRepeatZeroLong, 7)] →
      (i = .clRepeatPrev → s.engine.lens ≠ []) → 8 * s.engine.inlen < s.engine.cur + k → Raises i (malformed 0x0201) s) ∧
    (∀ add cur, codeLengthsOf s i = some (add, cur) →
      let L := s.engine.lens ++ add
      let ll := llPart s.engine.hlit L
      let dl := distPart s.engine.hlit s.engine.hdist L
      ((∀ l, i ≠ .clLen l) → total < L.length → Raises i (malformed 0x0402) s) ∧
      (L.length < total →
        exec i s = .next { s with engine := { s.engine with lens := L, cur := cur, phase := .codeLens } }) ∧
      (L.length = total → ∀ e, buildTable ll = .error e → Raises i { e with tables := [.tll] } s) ∧
      (L.length = total → ∀ e T w, buildTable ll = .ok (T, w) → buildTable dl = .error e →
        Raises i { e with tables := [.td, .tll] } s) ∧
      (L.length = total → ∀ T w T' w', buildTable ll = .ok (T, w) → buildTable dl = .ok (T', w') →
        exec i s = .next { s with
          tables := (s.tables.set .tll { entries := T ++ s.tables.tll.entries.drop T.length, n := 288 }).set .td
            { entries := T' ++ s.tables.td.entries.drop T'.length, n := 32 },
          engine := { s.engine with lens := L, cur := cur, build := w', phase := .syms } }))

/-- R172, R179: a literal writes one byte of its value at OUT[pos] and increments pos; at pos = cap it raises 0x0701 before
the write. -/
def Obligations.LiteralsWriteOneByte : Prop :=
  ∀ (v : Nat) (s : State), v ≤ 255 →
    (s.engine.cap ≤ s.engine.pos → Raises (.lit v) (malformed 0x0701) s) ∧
    (s.engine.pos < s.engine.cap →
      ∃ t, exec (.lit v) s = .next t ∧
        (∀ a, t.rd .out a = if a = s.engine.pos then BitVec.ofNat 8 v else s.rd .out a) ∧
        t.engine = { s.engine with pos := s.engine.pos + 1 } ∧ t.regs = s.regs ∧ t.status = s.status ∧
        Keeps [.out] [] s t)

/-- R173, R161, R264: symbol 256 ends the block: nothing is written, and another header is read or the Inflate returns. A
DECODE_FRAME whose output is short of its buffer then raises 0x0A06. -/
def Obligations.EndOfBlockReturnsToTheBlockLoop : Prop :=
  ∀ s : State,
    (s.engine.bfinal = true → s.runningOp = 4 → s.engine.pos ≠ s.engine.cap → Raises .eob (malformed 0x0A06) s) ∧
    ((s.engine.bfinal = true → s.runningOp = 4 → s.engine.pos = s.engine.cap) →
      ∃ t, exec .eob s = .next t ∧ BlockEnded s.engine.bfinal s.engine s t ∧ Keeps [] [] s t)

/-- R174, R110, R113: a length symbol reads its extra bits, least significant first, and gives a length of 3 to 258; its
distance symbol is read next. A missing extra bit raises 0x0201. -/
def Obligations.LengthSymbolsGiveTheLength : Prop :=
  ∀ (sym : Nat) (s : State), 257 ≤ sym → sym ≤ 285 →
    let length := lbase sym + s.bitsAt s.engine.cur (lextra sym)
    3 ≤ length ∧ length ≤ 258 ∧
    (lextra sym = 0 ∨ s.engine.cur + lextra sym ≤ 8 * s.engine.inlen →
      exec (.len sym) s = .next { s with
        engine := { s.engine with phase := .dist, length := length, cur := s.engine.cur + lextra sym } }) ∧
    (0 < lextra sym → 8 * s.engine.inlen < s.engine.cur + lextra sym → Raises (.len sym) (malformed 0x0201) s)

/-- R175, R176, R177, R179, R180: a distance symbol reads its extra bits, checks the reach and then the room, and copies
the pending length: OUT[start + k] becomes OUT[start − dist + (k mod dist)]. No byte is copied when a check fails. -/
def Obligations.DistanceSymbolsCopyBack : Prop :=
  ∀ (d : Nat) (s : State), d ≤ 29 →
    let dist := dbase d + s.bitsAt s.engine.cur (dextra d)
    let bits := dextra d = 0 ∨ s.engine.cur + dextra d ≤ 8 * s.engine.inlen
    1 ≤ dist ∧ dist ≤ 32768 ∧
    (¬ bits → Raises (.dist d) (malformed 0x0201) s) ∧
    (bits → s.engine.pos < dist → Raises (.dist d) (malformed 0x0704) s) ∧
    (bits → dist ≤ s.engine.pos → s.engine.cap < s.engine.pos + s.engine.length →
      Raises (.dist d) (malformed 0x0705) s) ∧
    (bits → dist ≤ s.engine.pos → s.engine.pos + s.engine.length ≤ s.engine.cap →
      ∃ t, exec (.dist d) s = .next t ∧
        (∀ a, t.rd .out a = if s.engine.pos ≤ a ∧ a < s.engine.pos + s.engine.length
          then s.rd .out (s.engine.pos - dist + (a - s.engine.pos) % dist) else s.rd .out a) ∧
        t.engine = { s.engine with phase := .syms, pos := s.engine.pos + s.engine.length,
                                   cur := s.engine.cur + dextra d } ∧
        t.regs = s.regs ∧ t.status = s.status ∧ Keeps [.out] [] s t)

/-! ### The Filter Reconstructor -/

/-- R203, R205 to R212: a filter-type byte 0 to 4 reconstructs its row in place, each byte the filtered byte plus its
type's prediction, mod 256; the next row's byte is read next. After the last row the rows are compacted if their pixels
are smaller than a byte and their padding is not empty, OUT_SIZE takes FinalSize, and the command ends. -/
def Obligations.FilterTypesReconstructTheirRow : Prop :=
  ∀ (i : Instr) (ft : Nat) (s : State), (i, ft) ∈ filters → s.regs.bpp? = some s.engine.bpp →
    let w := s.regs.frameW.toNat
    let h := s.regs.frameH.toNat
    let bpp := s.engine.bpp
    ∃ t m, exec i s = .next t ∧ RowReconstructed ft s m ∧ Keeps [.out] [] s t ∧
      (s.engine.row + 1 < h →
        t.mems.out = m ∧ t.regs = s.regs ∧ t.status = s.status ∧
        t.engine = { s.engine with phase := .filt, row := s.engine.row + 1 }) ∧
      (h ≤ s.engine.row + 1 →
        Compacted w h bpp m t.mems.out ∧
        t.regs = { s.regs with outSize := BitVec.ofNat 32 ((w * h * bpp + 7) / 8) } ∧
        t.status = { s.status with busy := false, done := true } ∧ t.engine = { s.engine with phase := .idle })

/-- R209: Paeth gives the candidate nearest to a + b − c, ties broken in the order a, b, c. -/
def Obligations.PaethPicksTheNearest : Prop :=
  ∀ a b c : Nat, a ≤ 255 → b ≤ 255 → c ≤ 255 →
    let d (x : Nat) : Nat := ((a : Int) + b - c - x).natAbs
    (paeth a b c = a ∨ paeth a b c = b ∨ paeth a b c = c) ∧
    (∀ x ∈ [a, b, c], d (paeth a b c) ≤ d x) ∧
    (d a ≤ d b → d a ≤ d c → paeth a b c = a) ∧
    (d b < d a → d b ≤ d c → paeth a b c = b) ∧ paeth 0 b 0 = b

/-- R213, R203, R211, R212: the Defilter is the exact inverse of the forward filters. For any rows `orig` and any filter
type for each row, if OUT holds the rows filtered (each byte minus its type's prediction from the original bytes, mod 256),
then after as many steps as there are rows the command has ended and OUT holds the rows' pixel bits, row after row with no
padding between them. -/
def Obligations.DefilterInvertsTheForwardFilters : Prop :=
  ∀ (s : State) (types : Nat → Nat) (orig : Nat → Nat → Nat),
    s.status.busy = true → s.bus = [] → s.inBounds = true → s.engine.phase = .filt → s.engine.row = 0 →
    let w := s.regs.frameW.toNat
    let h := s.regs.frameH.toNat
    let bpp := s.engine.bpp
    let lb := lineBytes w bpp
    let bw := byteWidth bpp
    let left (y i : Nat) : Nat := if bw ≤ i then orig y (i - bw) else 0
    let above (y i : Nat) : Nat := if y = 0 then 0 else orig (y - 1) i
    let aboveLeft (y i : Nat) : Nat := if bw ≤ i then above y (i - bw) else 0
    (∀ y < h, types y ≤ 4 ∧ (s.rd .out ((lb + 1) * y)).toNat = types y) →
    (∀ y < h, ∀ i < lb, orig y i ≤ 255 ∧ (s.rd .out ((lb + 1) * y + 1 + i)).toNat =
      (orig y i + 256 - prediction (types y) (left y i) (above y i) (aboveLeft y i) % 256) % 256) →
    ∃ t, core.run h s = .next t ∧ t.status = { s.status with busy := false, done := true } ∧
      t.regs.outSize = BitVec.ofNat 32 ((w * h * bpp + 7) / 8) ∧
      ∀ o < w * bpp * h, t.mems.out.bitMsb o =
        orig (o / (w * bpp)) (o % (w * bpp) / 8) / 2 ^ (7 - o % (w * bpp) % 8) % 2

/-! ### The Frame Compositor -/

/-- R220, R221, R222, R286: COMPOSITE makes its checks in their order and raises the error of the first that fails, with
CANVAS, SNAP, OUT and PREV_* untouched; if none fails the cycle's steps follow. -/
def Obligations.CompositeRaisesTheFirstFailingCheck : Prop :=
  ∀ s : State, s.Inv → s.idle → s.bus = [] →
    ∃ u, exec .composite s = .next u ∧
      (∀ c e, (compositeChecks s).find? (fun x => x.1) = some (c, e) →
        ∃ t, core.run 4 u = .next t ∧ Raised e (s.started 5) t ∧ (∀ id a, t.rd id a = s.rd id a) ∧
          t.tables = s.tables ∧ t.regs = { s.regs with op := 5, errSite := e.site }) ∧
      ((compositeChecks s).find? (fun x => x.1) = none →
        ∃ t m, core.run 4 u = .next t ∧ blendModeOf s.regs.blendMode = some m ∧
          t = { s.started 5 with engine := { s.engine with phase := .disposeRestore, mode := m,
                                                           bpp := s.regs.bitDepth.toNat } })

/-- R220, R223 to R232, R237, R241, R255: a COMPOSITE that passes its checks ends with DONE after its steps. Each canvas
pixel shows the previous frame disposed and then the current frame painted; with DISPOSE = 2, SNAP holds the current
rectangle as it was after the first step; the current frame is recorded as the previous one; and nothing else changes but
CMD.OP. -/
def Obligations.CompositeDisposesSnapshotsPaintsAndRecords : Prop :=
  ∀ (s : State) (m : BlendMode), s.Inv → s.idle → s.bus = [] → (compositeChecks s).find? (fun x => x.1) = none →
    blendModeOf s.regs.blendMode = some m →
    ∃ u t, exec .composite s = .next u ∧ core.run 7 u = .next t ∧
      t.status = { s.status with busy := false, done := true } ∧
      t.regs = recorded { s.regs with op := 5 } ∧
      (∀ x y c, onCanvas s x y c → cpix t x y c =
        afterPaint s (if s.regs.blend = 0 then none else some m) x y c
          (afterDispose s s.regs.prevDispose.toNat x y c)) ∧
      canvasTailKept s t ∧
      (s.regs.dispose = 2 →
        (∀ px py c, px < s.regs.frameW.toNat → py < s.regs.frameH.toNat → c < 4 →
          spix t px py s.regs.frameW.toNat c =
            afterDispose s s.regs.prevDispose.toNat (s.regs.frameX.toNat + px) (s.regs.frameY.toNat + py) c) ∧
        ∀ a, 4 * s.regs.frameW.toNat * s.regs.frameH.toNat ≤ a → t.rd .snap a = s.rd .snap a) ∧
      (s.regs.dispose ≠ 2 → ∀ a, t.rd .snap a = s.rd .snap a) ∧
      Keeps [.canvas, .snap] [] s t

/-- R222, R224 to R227: the dispose codes at their three uses. At its check a valid code passes. In step 1 NONE does
nothing, BACKGROUND zero-fills the previous rectangle and PREVIOUS overwrites it with the snapshot; in step 2 PREVIOUS
snapshots the current rectangle and the others do nothing; the cycle's next step follows. -/
def Obligations.DisposeCodesActOnTheirRectangles : Prop :=
  ∀ s : State,
    let next (p : Phase) : Engine := { s.engine with phase := p }
    (∀ i ∈ [Instr.disposeNone .check, .disposeBackground .check, .disposePrevious .check],
      exec i s = .next { s with engine := next .blendCheck }) ∧
    exec (.disposeNone .restore) s = .next { s with engine := next .disposeSnap } ∧
    (∀ i ∈ [Instr.disposeNone .snap, .disposeBackground .snap], exec i s = .next { s with engine := next .paint }) ∧
    (∀ i d, (i, d) ∈ [(Instr.disposeBackground .restore, 1), (.disposePrevious .restore, 2)] →
      ∃ t, exec i s = .next t ∧ (∀ x y c, onCanvas s x y c → cpix t x y c = afterDispose s d x y c) ∧
        canvasTailKept s t ∧ t.engine = next .disposeSnap ∧ t.regs = s.regs ∧ t.status = s.status ∧
        Keeps [.canvas] [] s t) ∧
    (∃ t, exec (.disposePrevious .snap) s = .next t ∧
      (∀ px py c, px < s.regs.frameW.toNat → py < s.regs.frameH.toNat → c < 4 →
        spix t px py s.regs.frameW.toNat c = cpix s (s.regs.frameX.toNat + px) (s.regs.frameY.toNat + py) c) ∧
      (∀ a, 4 * s.regs.frameW.toNat * s.regs.frameH.toNat ≤ a → t.rd .snap a = s.rd .snap a) ∧
      t.engine = next .paint ∧ t.regs = s.regs ∧ t.status = s.status ∧ Keeps [.snap] [] s t)

/-- R222, R228 to R231, R237: the blend codes at their two uses. At its check a valid code passes on to the geometry
checks, whose first failure raises its error. In step 3 SOURCE writes the texel of every frame pixel, alpha included, and
OVER blends all four channels with the texel's alpha; the frame is then recorded and the command ends. -/
def Obligations.BlendCodesPaintTheFrame : Prop :=
  ∀ s : State,
    (∀ i ∈ [Instr.blendSource .check, .blendOver .check],
      (∀ c e, ((compositeChecks s).drop 5).find? (fun x => x.1) = some (c, e) → Raises i e s) ∧
      (((compositeChecks s).drop 5).find? (fun x => x.1) = none →
        exec i s = .next { s with engine := { s.engine with phase := .disposeRestore } })) ∧
    (∀ i m, (i, m) ∈ [(Instr.blendSource .paint, none), (.blendOver .paint, some s.engine.mode)] →
      ∃ t, exec i s = .next t ∧ (∀ x y c, onCanvas s x y c → cpix t x y c = afterPaint s m x y c (cpix s x y c)) ∧
        canvasTailKept s t ∧ t.regs = recorded s.regs ∧ t.status = { s.status with busy := false, done := true } ∧
        t.engine = { s.engine with phase := .idle } ∧ Keeps [.canvas] [] s t)

/-- R31, R222, R232: a legal blend mode selects its formula and goes on to the dispose check; nothing else changes. -/
def Obligations.BlendModesSelectTheirFormula : Prop :=
  ∀ (s : State) (i : Instr) (m : BlendMode),
    (i, m) ∈ [(Instr.blendModeSingleDiv, .singleDiv), (.blendModePerTerm, .perTerm), (.blendModeRefTrunc, .refTrunc)] →
    exec i s = .next { s with engine := { s.engine with phase := .disposeCheck, mode := m } } ∧
    ∀ w, decode .blendMode w = .ok i → blendModeOf (BitVec.ofNat 2 w) = some m

/-- R233: in every mode the result of the blend is within 0 to 255, so the source's clamp never changes a value; in
REF_TRUNC it is the source or the canvas value. -/
def Obligations.TheClampNeverActs : Prop :=
  ∀ s a t : Nat, s ≤ 255 → a ≤ 255 → t ≤ 255 →
    (∀ m, blendChannel m s a t ≤ 255) ∧ (blendChannel .refTrunc s a t = s ∨ blendChannel .refTrunc s a t = t)

/-- R234: with alpha 255 every mode gives the source value and with alpha 0 the canvas value; between them REF_TRUNC leaves
the canvas unchanged, and PER_TERM is at most 1 below SINGLE_DIV and never above; with the rule's two examples. -/
def Obligations.BlendModeCornerCases : Prop :=
  (∀ s a t : Nat, s ≤ 255 → a ≤ 255 → t ≤ 255 →
    (a = 255 → ∀ m, blendChannel m s a t = s) ∧ (a = 0 → ∀ m, blendChannel m s a t = t) ∧
    (0 < a → a < 255 → blendChannel .refTrunc s a t = t) ∧
    blendChannel .perTerm s a t ≤ blendChannel .singleDiv s a t ∧
    blendChannel .singleDiv s a t ≤ blendChannel .perTerm s a t + 1) ∧
  blendChannel .singleDiv 100 100 100 = 100 ∧ blendChannel .perTerm 100 100 100 = 99 ∧
  blendChannel .singleDiv 255 128 1 = 128 ∧ blendChannel .perTerm 255 128 1 = 128

/-! ### BUILD_TABLE -/

/-- R256, R145, R286: a table-select code checks TBL_N, the lengths' place in IN, and the lengths, in that order; builds the
selected RAM from the TBL_N bytes at IN_BASE, its entries 2n and above kept; and ends. A failing build raises its error. -/
def Obligations.BuildTableBuildsTheSelectedRam : Prop :=
  ∀ (s : State) (i : Instr) (id : TableId) (nmax : Nat),
    (i, id, nmax) ∈ [(Instr.tblTll, TableId.tll, 288), (.tblTd, .td, 32), (.tblTcl, .tcl, 19)] →
    let n := s.regs.tblN.toNat
    let lens := (List.range n).map (fun k => (s.rd .inp (s.regs.inBase.toNat + k)).toNat)
    let legal := 1 ≤ n ∧ n ≤ nmax
    let fits := s.regs.inBase.toNat + n ≤ s.params.inCap
    (¬ legal → Raises i (param 0x0C02) s) ∧
    (legal → ¬ fits → Raises i (param 0x0C03) s) ∧
    (legal → fits → (∃ l ∈ lens, 15 < l) → Raises i (param 0x0C04) s) ∧
    (legal → fits → (∀ l ∈ lens, l ≤ 15) → ∀ e, buildTable lens = .error e → Raises i { e with tables := [id] } s) ∧
    (legal → fits → (∀ l ∈ lens, l ≤ 15) → ∀ T w, buildTable lens = .ok (T, w) →
      T.length = 2 * n ∧
      ∃ t, exec i s = .next t ∧
        (∀ k, (t.tables.get id).entries.getD k 0 = if k < 2 * n then T.getD k 0 else (s.tables.get id).entries.getD k 0) ∧
        (t.tables.get id).n = n ∧ t.regs = s.regs ∧ t.status = { s.status with busy := false, done := true } ∧
        t.engine = { s.engine with phase := .idle, build := w } ∧ Keeps [] [id] s t)
end

