-- ==== Sys2Proof/Laws/State.lean ====
section
/-! SUPPORT. One lemma per field per update of State, true by rfl. -/

namespace Sys2Proof.Machine

variable (s : State)

@[simp] theorem State.setStatus_status (x : Status) : (s.setStatus x).status = x := rfl
@[simp] theorem State.setStatus_regs (x : Status) : (s.setStatus x).regs = s.regs := rfl
@[simp] theorem State.setStatus_mems (x : Status) : (s.setStatus x).mems = s.mems := rfl
@[simp] theorem State.setStatus_tables (x : Status) : (s.setStatus x).tables = s.tables := rfl
@[simp] theorem State.setStatus_engine (x : Status) : (s.setStatus x).engine = s.engine := rfl
@[simp] theorem State.setStatus_bus (x : Status) : (s.setStatus x).bus = s.bus := rfl
@[simp] theorem State.setStatus_rdata (x : Status) : (s.setStatus x).rdata = s.rdata := rfl
@[simp] theorem State.setStatus_free (x : Status) : (s.setStatus x).free = s.free := rfl
@[simp] theorem State.setStatus_params (x : Status) : (s.setStatus x).params = s.params := rfl

@[simp] theorem State.setRegs_status (x : Regs) : (s.setRegs x).status = s.status := rfl
@[simp] theorem State.setRegs_regs (x : Regs) : (s.setRegs x).regs = x := rfl
@[simp] theorem State.setRegs_mems (x : Regs) : (s.setRegs x).mems = s.mems := rfl
@[simp] theorem State.setRegs_tables (x : Regs) : (s.setRegs x).tables = s.tables := rfl
@[simp] theorem State.setRegs_engine (x : Regs) : (s.setRegs x).engine = s.engine := rfl
@[simp] theorem State.setRegs_bus (x : Regs) : (s.setRegs x).bus = s.bus := rfl
@[simp] theorem State.setRegs_rdata (x : Regs) : (s.setRegs x).rdata = s.rdata := rfl
@[simp] theorem State.setRegs_free (x : Regs) : (s.setRegs x).free = s.free := rfl
@[simp] theorem State.setRegs_params (x : Regs) : (s.setRegs x).params = s.params := rfl

@[simp] theorem State.setMems_status (x : Mems) : (s.setMems x).status = s.status := rfl
@[simp] theorem State.setMems_regs (x : Mems) : (s.setMems x).regs = s.regs := rfl
@[simp] theorem State.setMems_mems (x : Mems) : (s.setMems x).mems = x := rfl
@[simp] theorem State.setMems_tables (x : Mems) : (s.setMems x).tables = s.tables := rfl
@[simp] theorem State.setMems_engine (x : Mems) : (s.setMems x).engine = s.engine := rfl
@[simp] theorem State.setMems_bus (x : Mems) : (s.setMems x).bus = s.bus := rfl
@[simp] theorem State.setMems_rdata (x : Mems) : (s.setMems x).rdata = s.rdata := rfl
@[simp] theorem State.setMems_free (x : Mems) : (s.setMems x).free = s.free := rfl
@[simp] theorem State.setMems_params (x : Mems) : (s.setMems x).params = s.params := rfl

@[simp] theorem State.setTables_status (x : Tables) : (s.setTables x).status = s.status := rfl
@[simp] theorem State.setTables_regs (x : Tables) : (s.setTables x).regs = s.regs := rfl
@[simp] theorem State.setTables_mems (x : Tables) : (s.setTables x).mems = s.mems := rfl
@[simp] theorem State.setTables_tables (x : Tables) : (s.setTables x).tables = x := rfl
@[simp] theorem State.setTables_engine (x : Tables) : (s.setTables x).engine = s.engine := rfl
@[simp] theorem State.setTables_bus (x : Tables) : (s.setTables x).bus = s.bus := rfl
@[simp] theorem State.setTables_rdata (x : Tables) : (s.setTables x).rdata = s.rdata := rfl
@[simp] theorem State.setTables_free (x : Tables) : (s.setTables x).free = s.free := rfl
@[simp] theorem State.setTables_params (x : Tables) : (s.setTables x).params = s.params := rfl

@[simp] theorem State.setEngine_status (x : Engine) : (s.setEngine x).status = s.status := rfl
@[simp] theorem State.setEngine_regs (x : Engine) : (s.setEngine x).regs = s.regs := rfl
@[simp] theorem State.setEngine_mems (x : Engine) : (s.setEngine x).mems = s.mems := rfl
@[simp] theorem State.setEngine_tables (x : Engine) : (s.setEngine x).tables = s.tables := rfl
@[simp] theorem State.setEngine_engine (x : Engine) : (s.setEngine x).engine = x := rfl
@[simp] theorem State.setEngine_bus (x : Engine) : (s.setEngine x).bus = s.bus := rfl
@[simp] theorem State.setEngine_rdata (x : Engine) : (s.setEngine x).rdata = s.rdata := rfl
@[simp] theorem State.setEngine_free (x : Engine) : (s.setEngine x).free = s.free := rfl
@[simp] theorem State.setEngine_params (x : Engine) : (s.setEngine x).params = s.params := rfl

@[simp] theorem State.setBus_status (x : List BusReq) : (s.setBus x).status = s.status := rfl
@[simp] theorem State.setBus_regs (x : List BusReq) : (s.setBus x).regs = s.regs := rfl
@[simp] theorem State.setBus_mems (x : List BusReq) : (s.setBus x).mems = s.mems := rfl
@[simp] theorem State.setBus_tables (x : List BusReq) : (s.setBus x).tables = s.tables := rfl
@[simp] theorem State.setBus_engine (x : List BusReq) : (s.setBus x).engine = s.engine := rfl
@[simp] theorem State.setBus_bus (x : List BusReq) : (s.setBus x).bus = x := rfl
@[simp] theorem State.setBus_rdata (x : List BusReq) : (s.setBus x).rdata = s.rdata := rfl
@[simp] theorem State.setBus_free (x : List BusReq) : (s.setBus x).free = s.free := rfl
@[simp] theorem State.setBus_params (x : List BusReq) : (s.setBus x).params = s.params := rfl

@[simp] theorem State.setRdata_status (x : Word) : (s.setRdata x).status = s.status := rfl
@[simp] theorem State.setRdata_regs (x : Word) : (s.setRdata x).regs = s.regs := rfl
@[simp] theorem State.setRdata_mems (x : Word) : (s.setRdata x).mems = s.mems := rfl
@[simp] theorem State.setRdata_tables (x : Word) : (s.setRdata x).tables = s.tables := rfl
@[simp] theorem State.setRdata_engine (x : Word) : (s.setRdata x).engine = s.engine := rfl
@[simp] theorem State.setRdata_bus (x : Word) : (s.setRdata x).bus = s.bus := rfl
@[simp] theorem State.setRdata_rdata (x : Word) : (s.setRdata x).rdata = x := rfl
@[simp] theorem State.setRdata_free (x : Word) : (s.setRdata x).free = s.free := rfl
@[simp] theorem State.setRdata_params (x : Word) : (s.setRdata x).params = s.params := rfl

@[simp] theorem State.setFree_status (x : Nat) : (s.setFree x).status = s.status := rfl
@[simp] theorem State.setFree_regs (x : Nat) : (s.setFree x).regs = s.regs := rfl
@[simp] theorem State.setFree_mems (x : Nat) : (s.setFree x).mems = s.mems := rfl
@[simp] theorem State.setFree_tables (x : Nat) : (s.setFree x).tables = s.tables := rfl
@[simp] theorem State.setFree_engine (x : Nat) : (s.setFree x).engine = s.engine := rfl
@[simp] theorem State.setFree_bus (x : Nat) : (s.setFree x).bus = s.bus := rfl
@[simp] theorem State.setFree_rdata (x : Nat) : (s.setFree x).rdata = s.rdata := rfl
@[simp] theorem State.setFree_free (x : Nat) : (s.setFree x).free = x := rfl
@[simp] theorem State.setFree_params (x : Nat) : (s.setFree x).params = s.params := rfl

@[simp] theorem State.setMem_status (id : MemId) (m : Mem) : (s.setMem id m).status = s.status := rfl
@[simp] theorem State.setMem_regs (id : MemId) (m : Mem) : (s.setMem id m).regs = s.regs := rfl
@[simp] theorem State.setMem_mems (id : MemId) (m : Mem) : (s.setMem id m).mems = s.mems.set id m := rfl
@[simp] theorem State.setMem_tables (id : MemId) (m : Mem) : (s.setMem id m).tables = s.tables := rfl
@[simp] theorem State.setMem_engine (id : MemId) (m : Mem) : (s.setMem id m).engine = s.engine := rfl
@[simp] theorem State.setMem_bus (id : MemId) (m : Mem) : (s.setMem id m).bus = s.bus := rfl
@[simp] theorem State.setMem_rdata (id : MemId) (m : Mem) : (s.setMem id m).rdata = s.rdata := rfl
@[simp] theorem State.setMem_free (id : MemId) (m : Mem) : (s.setMem id m).free = s.free := rfl
@[simp] theorem State.setMem_params (id : MemId) (m : Mem) : (s.setMem id m).params = s.params := rfl

@[simp] theorem State.goto_status (p : Phase) : (s.goto p).status = s.status := rfl
@[simp] theorem State.atCur_status (c : Nat) : (s.atCur c).status = s.status := rfl
@[simp] theorem State.goto_regs (p : Phase) : (s.goto p).regs = s.regs := rfl
@[simp] theorem State.atCur_regs (c : Nat) : (s.atCur c).regs = s.regs := rfl
@[simp] theorem State.goto_mems (p : Phase) : (s.goto p).mems = s.mems := rfl
@[simp] theorem State.atCur_mems (c : Nat) : (s.atCur c).mems = s.mems := rfl
@[simp] theorem State.goto_tables (p : Phase) : (s.goto p).tables = s.tables := rfl
@[simp] theorem State.atCur_tables (c : Nat) : (s.atCur c).tables = s.tables := rfl
@[simp] theorem State.goto_engine (p : Phase) : (s.goto p).engine = { s.engine with phase := p } := rfl
@[simp] theorem State.atCur_engine (c : Nat) : (s.atCur c).engine = { s.engine with cur := c } := rfl
@[simp] theorem State.goto_bus (p : Phase) : (s.goto p).bus = s.bus := rfl
@[simp] theorem State.atCur_bus (c : Nat) : (s.atCur c).bus = s.bus := rfl
@[simp] theorem State.goto_rdata (p : Phase) : (s.goto p).rdata = s.rdata := rfl
@[simp] theorem State.atCur_rdata (c : Nat) : (s.atCur c).rdata = s.rdata := rfl
@[simp] theorem State.goto_free (p : Phase) : (s.goto p).free = s.free := rfl
@[simp] theorem State.atCur_free (c : Nat) : (s.atCur c).free = s.free := rfl
@[simp] theorem State.goto_params (p : Phase) : (s.goto p).params = s.params := rfl
@[simp] theorem State.atCur_params (c : Nat) : (s.atCur c).params = s.params := rfl

@[simp] theorem State.finish_status : s.finish.status = s.status.finished := rfl
@[simp] theorem State.finish_regs : s.finish.regs = s.regs := rfl
@[simp] theorem State.finish_mems : s.finish.mems = s.mems := rfl
@[simp] theorem State.finish_tables : s.finish.tables = s.tables := rfl
@[simp] theorem State.finish_engine : s.finish.engine = { s.engine with phase := .idle } := rfl
@[simp] theorem State.finish_bus : s.finish.bus = s.bus := rfl
@[simp] theorem State.finish_rdata : s.finish.rdata = s.rdata := rfl
@[simp] theorem State.finish_free : s.finish.free = s.free := rfl
@[simp] theorem State.finish_params : s.finish.params = s.params := rfl

@[simp] theorem State.latchHeader_status (b : Bool) (t : BitVec 2) : (s.latchHeader b t).status = s.status := rfl
@[simp] theorem State.latchHeader_regs (b : Bool) (t : BitVec 2) : (s.latchHeader b t).regs = s.regs := rfl
@[simp] theorem State.latchHeader_mems (b : Bool) (t : BitVec 2) : (s.latchHeader b t).mems = s.mems := rfl
@[simp] theorem State.latchHeader_tables (b : Bool) (t : BitVec 2) : (s.latchHeader b t).tables = s.tables := rfl
@[simp] theorem State.latchHeader_engine (b : Bool) (t : BitVec 2) : (s.latchHeader b t).engine = { s.engine with bfinal := b, btype := t } := rfl
@[simp] theorem State.latchHeader_bus (b : Bool) (t : BitVec 2) : (s.latchHeader b t).bus = s.bus := rfl
@[simp] theorem State.latchHeader_rdata (b : Bool) (t : BitVec 2) : (s.latchHeader b t).rdata = s.rdata := rfl
@[simp] theorem State.latchHeader_free (b : Bool) (t : BitVec 2) : (s.latchHeader b t).free = s.free := rfl
@[simp] theorem State.latchHeader_params (b : Bool) (t : BitVec 2) : (s.latchHeader b t).params = s.params := rfl

end Sys2Proof.Machine
end

