-- ==== Sys2Proof/Laws/Memory.lean ====
section
/-! SUPPORT. The laws of the byte memories and of the stores by name: read after write, and that every memory operation
keeps the canonical form. -/

namespace Sys2Proof.Machine

/-! ### Reading -/

@[simp] theorem Mem.read_nil (a : Nat) : Mem.read [] a = Mem.unlisted := rfl

theorem Mem.read_cons (c : Host.Cell) (m : Mem) (a : Nat) :
    Mem.read (c :: m) a = if c.1 = a then c.2 else Mem.read m a := rfl

theorem Mem.read_of_not_mem {m : Mem} {a : Nat} (h : ∀ c ∈ m, c.1 ≠ a) : Mem.read m a = Mem.unlisted := by
  induction m with
  | nil => rfl
  | cons c m ih =>
    rw [Mem.read_cons, if_neg (h c (by simp))]
    exact ih (fun d hd => h d (by simp [hd]))

/-- A read in a concatenation: in the first part if the address is listed there, else in the second. -/
theorem Mem.read_append (m₁ m₂ : Mem) (a : Nat) :
    Mem.read (m₁ ++ m₂) a = if ∃ c ∈ m₁, c.1 = a then Mem.read m₁ a else Mem.read m₂ a := by
  induction m₁ with
  | nil => simp
  | cons c m ih =>
    rw [List.cons_append, Mem.read_cons, Mem.read_cons, ih]
    by_cases hc : c.1 = a
    · simp [hc]
    · simp [hc]

theorem Mem.read_filter (m : Mem) (p : Nat → Bool) (a : Nat) :
    Mem.read (m.filter (fun c => p c.1)) a = if p a then Mem.read m a else Mem.unlisted := by
  induction m with
  | nil => simp
  | cons c m ih =>
    rw [List.filter_cons]
    by_cases hc : c.1 = a
    · subst hc
      by_cases hp : p c.1
      · simp [hp, Mem.read_cons]
      · simp [hp, ih]
    · by_cases hp : p c.1
      · simp [hp, Mem.read_cons, hc, ih]
      · simp [hp, Mem.read_cons, hc, ih]

/-- The rewritten cells of `Mem.fill`. -/
abbrev Mem.cells (lo n : Nat) (g : Nat → Byte) : Mem := (List.range n).filterMap (fun k => Mem.cell (lo + k) (g k))

theorem Mem.mem_cells {lo n : Nat} {g : Nat → Byte} {c : Host.Cell} :
    c ∈ Mem.cells lo n g ↔ ∃ k < n, g k ≠ Mem.unlisted ∧ c = (lo + k, g k) := by
  simp only [Mem.cells, List.mem_filterMap, List.mem_range, Mem.cell]
  constructor
  · rintro ⟨k, hk, h⟩
    split at h
    · cases h
    · exact ⟨k, hk, ‹_›, by simpa using h.symm⟩
  · rintro ⟨k, hk, h, rfl⟩
    exact ⟨k, hk, by simp [h]⟩

theorem Mem.cells_succ (lo n : Nat) (g : Nat → Byte) :
    Mem.cells lo (n + 1) g = Mem.cells lo n g ++ (Mem.cell (lo + n) (g n)).toList := by
  rw [Mem.cells, List.range_succ, List.filterMap_append]
  rcases h : Mem.cell (lo + n) (g n) with _ | c <;> simp [h]

theorem Mem.read_cells (lo n : Nat) (g : Nat → Byte) (a : Nat) :
    Mem.read (Mem.cells lo n g) a = if lo ≤ a ∧ a < lo + n then g (a - lo) else Mem.unlisted := by
  induction n with
  | zero => rw [if_neg (by omega)]; rfl
  | succ n ih =>
    rw [Mem.cells_succ, Mem.read_append, ih]
    by_cases hm : ∃ c ∈ Mem.cells lo n g, c.1 = a
    · obtain ⟨c, hc, rfl⟩ := hm
      obtain ⟨k, hk, hg, rfl⟩ := Mem.mem_cells.1 hc
      rw [if_pos ⟨_, hc, rfl⟩]
      dsimp only
      rw [if_pos (by omega), if_pos (by omega)]
    · rw [if_neg hm]
      by_cases hr : lo ≤ a ∧ a < lo + n
      · have hg : g (a - lo) = Mem.unlisted := by
          by_contra hne
          exact hm ⟨(lo + (a - lo), g (a - lo)), Mem.mem_cells.2 ⟨a - lo, by omega, hne, rfl⟩,
            show lo + (a - lo) = a by omega⟩
        rw [if_pos (show lo ≤ a ∧ a < lo + (n + 1) by omega), hg]
        unfold Mem.cell
        split <;> simp [Mem.read_cons]
        intro h; omega
      · by_cases ha : a = lo + n
        · subst ha
          rw [if_pos (by omega)]
          unfold Mem.cell
          have hs : lo + n - lo = n := by omega
          split <;> simp_all [Mem.read_cons]
        · rw [if_neg (by omega)]
          unfold Mem.cell
          split <;> simp [Mem.read_cons]
          intro h; omega

/-- What a read gives after a rewrite: the new byte inside the range, the old one outside. -/
theorem Mem.read_fill (lo n : Nat) (f : Nat → Byte → Byte) (m : Mem) (a : Nat) :
    Mem.read (Mem.fill lo n f m) a =
      if lo ≤ a ∧ a < lo + n then f (a - lo) (Mem.read m a) else Mem.read m a := by
  have key : Mem.fill lo n f m =
      (m.filter (fun c => decide (c.1 < lo)) ++ Mem.cells lo n (fun k => f k (Mem.read m (lo + k)))) ++
        m.filter (fun c => decide (lo + n ≤ c.1)) := rfl
  have h1 := Mem.read_filter m (fun b => decide (b < lo)) a
  have h2 := Mem.read_filter m (fun b => decide (lo + n ≤ b)) a
  have h3 := Mem.read_cells lo n (fun k => f k (Mem.read m (lo + k))) a
  have hnone : ∀ m' : Mem, ¬ (∃ c ∈ m', c.1 = a) → Mem.read m' a = Mem.unlisted :=
    fun m' h => Mem.read_of_not_mem (fun c hc he => h ⟨c, hc, he⟩)
  by_cases hlt : a < lo
  · rw [if_neg (show ¬ (lo ≤ a ∧ a < lo + n) by omega), key, Mem.read_append, Mem.read_append]
    rw [if_pos (by simpa using hlt)] at h1
    rw [if_neg (by simp; omega)] at h2
    rw [if_neg (by omega)] at h3
    split_ifs with hx hy
    · exact h1
    · rw [h3, ← h1, hnone _ hy]
    · rw [h2, ← h1]
      refine (hnone _ (fun hc => hx ?_)).symm
      obtain ⟨c, hc, he⟩ := hc
      exact ⟨c, List.mem_append.2 (.inl hc), he⟩
  · have hnl : ¬ (∃ c ∈ m.filter (fun c => decide (c.1 < lo)), c.1 = a) := by
      rintro ⟨c, hc, rfl⟩
      simp only [List.mem_filter, decide_eq_true_eq] at hc
      omega
    by_cases hin : a < lo + n
    · rw [if_pos (show lo ≤ a ∧ a < lo + n by omega), key, Mem.read_append, Mem.read_append, if_neg hnl]
      rw [if_pos (by omega), show lo + (a - lo) = a by omega] at h3
      rw [if_neg (by simp; omega)] at h2
      split_ifs with hx
      · exact h3
      · rw [h2, ← h3]
        refine (hnone _ (fun hc => hx ?_)).symm
        obtain ⟨c, hc, he⟩ := hc
        exact ⟨c, List.mem_append.2 (.inr hc), he⟩
    · rw [if_neg (show ¬ (lo ≤ a ∧ a < lo + n) by omega), key, Mem.read_append, if_neg, h2, if_pos (by simp; omega)]
      rintro ⟨c, hc, rfl⟩
      rcases List.mem_append.1 hc with hc | hc
      · exact hnl ⟨c, hc, rfl⟩
      · obtain ⟨k, hk, -, rfl⟩ := Mem.mem_cells.1 hc
        exact hin (show lo + k < lo + n by omega)

theorem Mem.read_fill_in {lo n : Nat} {f : Nat → Byte → Byte} {m : Mem} {a : Nat} (h : lo ≤ a) (h' : a < lo + n) :
    Mem.read (Mem.fill lo n f m) a = f (a - lo) (Mem.read m a) := by
  rw [Mem.read_fill, if_pos ⟨h, h'⟩]

theorem Mem.read_fill_out {lo n : Nat} {f : Nat → Byte → Byte} {m : Mem} {a : Nat} (h : a < lo ∨ lo + n ≤ a) :
    Mem.read (Mem.fill lo n f m) a = Mem.read m a := by
  rw [Mem.read_fill, if_neg (by omega)]

@[simp] theorem Mem.read_write (a : Nat) (b : Byte) (m : Mem) (a' : Nat) :
    Mem.read (Mem.write a b m) a' = if a' = a then b else Mem.read m a' := by
  rw [Mem.write, Mem.read_fill]
  by_cases h : a' = a
  · rw [if_pos (by omega), if_pos h]
  · rw [if_neg (by omega), if_neg h]

/-! ### The canonical form -/

theorem Mem.pairwise_cells (lo n : Nat) (g : Nat → Byte) : (Mem.cells lo n g).Pairwise (fun c d => c.1 < d.1) := by
  induction n with
  | zero => simp [Mem.cells]
  | succ n ih =>
    rw [Mem.cells_succ, List.pairwise_append]
    refine ⟨ih, ?_, ?_⟩
    · unfold Mem.cell; split <;> simp
    · intro c hc d hd
      obtain ⟨k, hk, -, rfl⟩ := Mem.mem_cells.1 hc
      unfold Mem.cell at hd
      split at hd <;> simp at hd
      subst hd
      dsimp only; omega

/-- Every rewrite keeps the canonical form. -/
theorem Mem.wf_fill {lo n : Nat} {f : Nat → Byte → Byte} {m : Mem} (h : Mem.wf m) : Mem.wf (Mem.fill lo n f m) := by
  obtain ⟨hp, hv⟩ := h
  have key : Mem.fill lo n f m =
      (m.filter (fun c => decide (c.1 < lo)) ++ Mem.cells lo n (fun k => f k (Mem.read m (lo + k)))) ++
        m.filter (fun c => decide (lo + n ≤ c.1)) := rfl
  rw [key]
  constructor
  · rw [List.pairwise_append, List.pairwise_append]
    refine ⟨⟨hp.filter _, Mem.pairwise_cells _ _ _, ?_⟩, hp.filter _, ?_⟩
    · intro c hc d hd
      simp only [List.mem_filter, decide_eq_true_eq] at hc
      obtain ⟨k, hk, -, rfl⟩ := Mem.mem_cells.1 hd
      dsimp only; omega
    · intro c hc d hd
      simp only [List.mem_filter, decide_eq_true_eq] at hd
      rcases List.mem_append.1 hc with hc | hc
      · simp only [List.mem_filter, decide_eq_true_eq] at hc; omega
      · obtain ⟨k, hk, -, rfl⟩ := Mem.mem_cells.1 hc
        dsimp only; omega
  · intro c hc
    rcases List.mem_append.1 hc with hc | hc
    · rcases List.mem_append.1 hc with hc | hc
      · exact hv c (List.mem_of_mem_filter hc)
      · obtain ⟨k, -, hg, rfl⟩ := Mem.mem_cells.1 hc
        exact hg
    · exact hv c (List.mem_of_mem_filter hc)

theorem Mem.wf_nil : Mem.wf [] := ⟨List.Pairwise.nil, fun _ h => absurd h List.not_mem_nil⟩

/-- Every memory is canonical after power-on. -/
theorem Mems.wf_powerOn (id : MemId) : Mem.wf (Mems.powerOn.get id) := by cases id <;> exact Mem.wf_nil

theorem Mem.wf_write {a : Nat} {b : Byte} {m : Mem} (h : Mem.wf m) : Mem.wf (Mem.write a b m) := Mem.wf_fill h

/-- A rewrite below a bound lists nothing at or beyond it. -/
theorem Mem.lt_fill {lo n cap : Nat} {f : Nat → Byte → Byte} {m : Mem} (h : ∀ c ∈ m, c.1 < cap) (hn : lo + n ≤ cap) :
    ∀ c ∈ Mem.fill lo n f m, c.1 < cap := by
  intro c hc
  rcases List.mem_append.1 (show c ∈ (m.filter (fun c => decide (c.1 < lo)) ++
      Mem.cells lo n (fun k => f k (Mem.read m (lo + k)))) ++ m.filter (fun c => decide (lo + n ≤ c.1)) from hc)
    with hc | hc
  · rcases List.mem_append.1 hc with hc | hc
    · exact h c (List.mem_of_mem_filter hc)
    · obtain ⟨k, hk, -, rfl⟩ := Mem.mem_cells.1 hc
      dsimp only; omega
  · exact h c (List.mem_of_mem_filter hc)

/-- Two canonical memories that read alike are equal. -/
theorem Mem.ext_read {m m' : Mem} (h : Mem.wf m) (h' : Mem.wf m') (hr : ∀ a, Mem.read m a = Mem.read m' a) : m = m' := by
  induction m generalizing m' with
  | nil =>
    cases m' with
    | nil => rfl
    | cons d m' =>
      have := hr d.1
      rw [Mem.read_nil, Mem.read_cons, if_pos rfl] at this
      exact absurd this.symm (h'.2 d (by simp))
  | cons c m ih =>
    cases m' with
    | nil =>
      have := hr c.1
      rw [Mem.read_nil, Mem.read_cons, if_pos rfl] at this
      exact absurd this (h.2 c (by simp))
    | cons d m' =>
      obtain ⟨hp, hv⟩ := h
      obtain ⟨hp', hv'⟩ := h'
      rw [List.pairwise_cons] at hp hp'
      have gap : ∀ {x : Host.Cell} {l : Mem}, (∀ y ∈ l, x.1 < y.1) → ∀ a ≤ x.1, Mem.read l a = Mem.unlisted :=
        fun hx a ha => Mem.read_of_not_mem (fun y hy he => absurd (hx y hy) (by omega))
      have hcd : c.1 = d.1 := by
        rcases lt_trichotomy c.1 d.1 with hlt | he | hlt
        · have := hr c.1
          rw [Mem.read_cons, if_pos rfl, Mem.read_cons, if_neg (by omega), gap hp'.1 _ (by omega)] at this
          exact absurd this (hv c (by simp))
        · exact he
        · have := hr d.1
          rw [Mem.read_cons, if_neg (by omega), gap hp.1 _ (by omega), Mem.read_cons, if_pos rfl] at this
          exact absurd this.symm (hv' d (by simp))
      have hval : c.2 = d.2 := by
        have := hr c.1
        rwa [Mem.read_cons, if_pos rfl, Mem.read_cons, if_pos hcd.symm] at this
      have hrest : m = m' := by
        refine ih ⟨hp.2, fun x hx => hv x (by simp [hx])⟩ ⟨hp'.2, fun x hx => hv' x (by simp [hx])⟩ (fun a => ?_)
        by_cases ha : a = c.1
        · subst ha
          rw [gap hp.1 _ le_rfl, gap hp'.1 _ (by omega)]
        · have := hr a
          rwa [Mem.read_cons, if_neg (by omega), Mem.read_cons, if_neg (by omega)] at this
      rw [hrest, Prod.ext hcd hval]

/-! ### Stores by name -/

@[simp] theorem Mems.get_set_same (ms : Mems) (id : MemId) (m : Mem) : (ms.set id m).get id = m := by
  cases id <;> rfl

theorem Mems.get_set (ms : Mems) (id id' : MemId) (m : Mem) :
    (ms.set id m).get id' = if id' = id then m else ms.get id' := by
  cases id <;> cases id' <;> rfl

@[simp] theorem Tables.get_set_same (t : Tables) (id : TableId) (r : TableRam) : (t.set id r).get id = r := by
  cases id <;> rfl

theorem Tables.get_set (t : Tables) (id id' : TableId) (r : TableRam) :
    (t.set id r).get id' = if id' = id then r else t.get id' := by
  cases id <;> cases id' <;> rfl

theorem State.rd_setMem (s : State) (id id' : MemId) (m : Mem) (a : Nat) :
    (s.setMem id m).rd id' a = if id' = id then Mem.read m a else s.rd id' a := by
  simp only [State.rd, State.setMem_mems, Mems.get_set]
  split <;> rfl

end Sys2Proof.Machine
end

