-- ==== Sys2Proof/Laws/Canonical.lean ====
section
/-! SUPPORT. Every operation that rewrites a memory keeps its canonical form. -/

namespace Sys2Proof.Machine

/-- What a state's memories become: canonical after one of them is replaced by a canonical one. -/
theorem State.wf_setMem {s : State} {id : MemId} {m : Mem} (h : ∀ id, Mem.wf (s.mems.get id)) (hm : Mem.wf m)
    (id' : MemId) : Mem.wf ((s.setMem id m).mems.get id') := by
  show Mem.wf ((s.mems.set id m).get id')
  rw [Mems.get_set]
  split
  · exact hm
  · exact h id'

theorem State.wf_freeMem {s : State} {id : MemId} {n : Nat} {p : Nat → Bool} (h : ∀ id, Mem.wf (s.mems.get id))
    (id' : MemId) : Mem.wf ((s.freeMem id n p).mems.get id') :=
  State.wf_setMem (s := s) (id := id) h (Mem.wf_fill (h id)) id'

theorem State.wf_writeBytes {s : State} {id : MemId} {a n : Nat} {v : Word} (h : ∀ id, Mem.wf (s.mems.get id))
    (id' : MemId) : Mem.wf ((s.writeBytes id a n v).mems.get id') := State.wf_setMem h (Mem.wf_fill (h id)) id'

theorem State.wf_withInput {s : State} {bits : Nat} (h : ∀ id, Mem.wf (s.mems.get id)) (id' : MemId) :
    Mem.wf ((s.withInput bits).mems.get id') := State.wf_setMem h (Mem.wf_fill (h .inp)) id'

theorem State.wf_storedCopy {s : State} {p len : Nat} (h : Mem.wf s.mems.out) : Mem.wf (s.storedCopy p len) := Mem.wf_fill h

theorem wf_copyLoop {start dist left pos back : Nat} {m : Mem} (h : Mem.wf m) :
    Mem.wf (copyLoop start dist left pos back m) := by
  induction left generalizing pos back m with
  | zero => exact h
  | succ left ih => exact ih (Mem.wf_write h)

theorem wf_copyBack {pos length dist : Nat} {m : Mem} (h : Mem.wf m) : Mem.wf (copyBack pos length dist m) := wf_copyLoop h

theorem wf_rowOut {pred : Predictor} {bw lb y : Nat} {m : Mem} (h : Mem.wf m) : Mem.wf (rowOut pred bw lb y m) := by
  unfold rowOut
  exact Mem.wf_fill h

theorem wf_compact {w h bpp : Nat} {m : Mem} (hm : Mem.wf m) : Mem.wf (compact w h bpp m) := by
  unfold compact
  split
  · exact Mem.wf_fill hm
  · exact hm

theorem State.wf_canvas {s : State} (h : Mem.wf s.mems.canvas) :
    Mem.wf s.canvasBackground ∧ Mem.wf s.canvasRestored ∧ ∀ isOver, Mem.wf (s.canvasPainted isOver) :=
  ⟨Mem.wf_fill h, Mem.wf_fill h, fun _ => Mem.wf_fill h⟩

theorem State.wf_snapTaken {s : State} (h : Mem.wf s.mems.snap) : Mem.wf s.snapTaken := by
  unfold State.snapTaken
  exact Mem.wf_fill h

end Sys2Proof.Machine
end

