-- ==== Sys2Proof/Laws/Ops.lean ====
section
/-! SUPPORT. What each shared operation can do, said once: settling, the free contents, raising an error, soft reset. -/

namespace Sys2Proof.Machine

/-! ### Settling -/

@[simp] theorem settle_ok (s t : State) : settle s (.ok t) = .next t := rfl
@[simp] theorem settle_error (s : State) (e : Err) : settle s (.error e) = .next (raise e s) := rfl

/-- A settled element always gives a next state: the body's, or the error's. -/
theorem settle_cases (s : State) (body : Except Err State) :
    (∃ t, body = .ok t ∧ settle s body = .next t) ∨ (∃ e, body = .error e ∧ settle s body = .next (raise e s)) := by
  cases body with
  | ok t => exact .inl ⟨t, rfl, rfl⟩
  | error e => exact .inr ⟨e, rfl, rfl⟩

/-! ### Unspecified contents -/

theorem State.freeMem_mems (s : State) (id : MemId) (n : Nat) (p : Nat → Bool) :
    (s.freeMem id n p).mems = s.mems.set id
      (Mem.fill 0 n (fun a old => if p a then Config.freeByte (s.free + a) else old) (s.mems.get id)) := rfl

@[simp] theorem State.freeMem_status (s : State) (id : MemId) (n : Nat) (p : Nat → Bool) :
    (s.freeMem id n p).status = s.status := rfl
@[simp] theorem State.freeMem_regs (s : State) (id : MemId) (n : Nat) (p : Nat → Bool) :
    (s.freeMem id n p).regs = s.regs := rfl
@[simp] theorem State.freeMem_tables (s : State) (id : MemId) (n : Nat) (p : Nat → Bool) :
    (s.freeMem id n p).tables = s.tables := rfl
@[simp] theorem State.freeMem_engine (s : State) (id : MemId) (n : Nat) (p : Nat → Bool) :
    (s.freeMem id n p).engine = s.engine := rfl
@[simp] theorem State.freeMem_bus (s : State) (id : MemId) (n : Nat) (p : Nat → Bool) :
    (s.freeMem id n p).bus = s.bus := rfl
@[simp] theorem State.freeMem_rdata (s : State) (id : MemId) (n : Nat) (p : Nat → Bool) :
    (s.freeMem id n p).rdata = s.rdata := rfl
@[simp] theorem State.freeMem_params (s : State) (id : MemId) (n : Nat) (p : Nat → Bool) :
    (s.freeMem id n p).params = s.params := rfl

/-- A byte not picked, or of another memory, is kept. -/
theorem State.rd_freeMem {s : State} {id id' : MemId} {n a : Nat} {p : Nat → Bool}
    (h : id' ≠ id ∨ n ≤ a ∨ p a = false) : (s.freeMem id n p).rd id' a = s.rd id' a := by
  unfold State.rd
  rw [State.freeMem_mems, Mems.get_set]
  by_cases hid : id' = id
  · subst hid
    rw [if_pos rfl, Mem.read_fill]
    by_cases hr : 0 ≤ a ∧ a < 0 + n
    · have hp : p a = false := by
        rcases h with h | h | h
        · exact absurd rfl h
        · omega
        · exact h
      rw [if_pos hr, Nat.sub_zero, hp, if_neg (by decide)]
    · rw [if_neg hr]
  · rw [if_neg hid]

@[simp] theorem State.freeTable_status (s : State) (id : TableId) : (s.freeTable id).status = s.status := rfl
@[simp] theorem State.freeTable_regs (s : State) (id : TableId) : (s.freeTable id).regs = s.regs := rfl
@[simp] theorem State.freeTable_mems (s : State) (id : TableId) : (s.freeTable id).mems = s.mems := rfl
@[simp] theorem State.freeTable_engine (s : State) (id : TableId) : (s.freeTable id).engine = s.engine := rfl
@[simp] theorem State.freeTable_bus (s : State) (id : TableId) : (s.freeTable id).bus = s.bus := rfl
@[simp] theorem State.freeTable_rdata (s : State) (id : TableId) : (s.freeTable id).rdata = s.rdata := rfl
@[simp] theorem State.freeTable_params (s : State) (id : TableId) : (s.freeTable id).params = s.params := rfl

theorem State.freeTable_get (s : State) (id id' : TableId) (h : id' ≠ id) :
    (s.freeTable id).tables.get id' = s.tables.get id' := by
  rw [State.freeTable]; simp [Tables.get_set, h]

theorem State.freeTable_length (s : State) (id id' : TableId) :
    ((s.freeTable id).tables.get id').entries.length = (s.tables.get id').entries.length := by
  rw [State.freeTable]
  by_cases h : id' = id
  · subst h; simp
  · simp [Tables.get_set, h]

/-- Freeing table RAMs touches nothing but the named RAMs' entries, and keeps their sizes. -/
theorem State.freeTables_spec (s : State) (ids : List TableId) :
    (s.freeTables ids).status = s.status ∧ (s.freeTables ids).regs = s.regs ∧ (s.freeTables ids).mems = s.mems ∧
    (s.freeTables ids).engine = s.engine ∧ (s.freeTables ids).bus = s.bus ∧ (s.freeTables ids).rdata = s.rdata ∧
    (s.freeTables ids).params = s.params ∧
    (∀ id, id ∉ ids → (s.freeTables ids).tables.get id = s.tables.get id) ∧
    (∀ id, ((s.freeTables ids).tables.get id).entries.length = (s.tables.get id).entries.length) := by
  induction ids generalizing s with
  | nil => simp [State.freeTables]
  | cons id ids ih =>
    have h := ih (s.freeTable id)
    rw [show s.freeTables (id :: ids) = (s.freeTable id).freeTables ids from rfl]
    obtain ⟨h1, h2, h3, h4, h5, h6, h7, h8, h9⟩ := h
    refine ⟨h1, h2, h3, h4, h5, h6, h7, fun id' hn => ?_, fun id' => ?_⟩
    · simp only [List.mem_cons, not_or] at hn
      rw [h8 id' hn.2, State.freeTable_get _ _ _ hn.1]
    · rw [h9 id', State.freeTable_length]

/-- Freeing the registers of R34, R35 and R33 that the running command writes touches nothing else. -/
theorem State.freeRegs_spec (s : State) :
    s.freeRegs.status = s.status ∧ s.freeRegs.mems = s.mems ∧ s.freeRegs.tables = s.tables ∧
    s.freeRegs.engine = s.engine ∧ s.freeRegs.bus = s.bus ∧ s.freeRegs.rdata = s.rdata ∧
    s.freeRegs.params = s.params ∧
    s.freeRegs.regs = { s.regs with outPos := s.freeRegs.regs.outPos, bitPos := s.freeRegs.regs.bitPos,
                                    outSize := s.freeRegs.regs.outSize } ∧
    (inflates s.runningOp = false → s.freeRegs.regs.outPos = s.regs.outPos ∧ s.freeRegs.regs.bitPos = s.regs.bitPos) ∧
    (defilters s.runningOp = false → s.freeRegs.regs.outSize = s.regs.outSize) := by
  simp only [State.freeRegs]
  cases inflates s.runningOp <;> cases defilters s.runningOp <;> simp

/-! ### Raising an error -/

/-- R283 and R287: what raising an error does. -/
theorem raise_spec (e : Err) (s : State) : Raised e s (raise e s) := by
  obtain ⟨h1, h2, h3, h4, h5, h6, h7, h8, -⟩ := s.freeTables_spec (s.unspecifiedTables e)
  obtain ⟨r1, r2, r3, r4, r5, r6, r7, r8, r9, r10⟩ := ((s.freeTables (s.unspecifiedTables e)).freeOut).freeRegs_spec
  have hop : ((s.freeTables (s.unspecifiedTables e)).freeOut).runningOp = s.runningOp := by
    simp only [State.runningOp, State.freeOut, State.freeMem_regs, h2]
  have hfp : (s.freeTables (s.unspecifiedTables e)).outFootprint = s.outFootprint := by
    simp only [State.outFootprint, State.runningOp, h2, h7]
    rfl
  rw [hop] at r9 r10
  simp only [State.freeOut, State.freeMem_regs, State.freeMem_tables, State.freeMem_bus, State.freeMem_rdata,
    State.freeMem_params, h2, h5, h6, h7] at r3 r5 r6 r7 r8 r9 r10
  have hrd : ∀ id a, id ≠ .out ∨ s.outFootprint ≤ a → (raise e s).rd id a = s.rd id a := by
    intro id a h
    have : (raise e s).rd id a = ((s.freeTables (s.unspecifiedTables e)).freeOut).rd id a := by
      simp only [raise, State.rd, State.setStatus_mems, State.goto_mems, State.setRegs_mems, r2]
    rw [this, State.freeOut, State.rd_freeMem (by rw [hfp]; tauto)]
    simp only [State.rd, h3]
  refine ⟨rfl, rfl, ?_, ?_, ?_, fun id hid a => hrd id a (.inl hid), fun a ha => hrd _ a (.inr ha), fun id hid => ?_, ?_⟩
  · simp only [raise, State.setStatus_regs, State.goto_regs, State.setRegs_regs]
    rw [State.freeOut, r8]
  · exact r9
  · exact r10
  · simp only [raise, State.setStatus_tables, State.goto_tables, State.setRegs_tables, State.freeOut, r3]
    exact h8 id hid
  · simp only [raise, State.setStatus_bus, State.goto_bus, State.setRegs_bus, State.setStatus_rdata, State.goto_rdata,
      State.setRegs_rdata, State.setStatus_params, State.goto_params, State.setRegs_params, State.freeOut]
    exact ⟨rfl, r5, r6, r7⟩

/-! ### Soft reset -/

/-- R311: what a soft reset leaves in the registers, whatever it abandons. -/
theorem softReset_regs (s : State) :
    (softReset s).regs = Regs.reset ∧ (softReset s).status = Status.reset ∧ (softReset s).engine = Engine.reset := by
  exact ⟨rfl, rfl, rfl⟩

/-- R311: a soft reset changes memories and table RAMs only as abandoning a running command does. -/
theorem softReset_stores (s : State) :
    (softReset s).mems = (if s.status.busy then s.abandon else s).mems ∧
    (softReset s).tables = (if s.status.busy then s.abandon else s).tables := ⟨rfl, rfl⟩

/-- R260, R311: abandoning COMPOSITE frees the canvas pixels of the two rectangles and the first 4·W·H bytes of SNAP; its
footprint in OUT is empty. -/
theorem State.abandon_composite (s : State) (h : s.runningOp = 5) :
    s.abandon = (s.freeOut.freeMem .canvas (min (4 * s.regs.canvasW.toNat * s.regs.canvasH.toNat) s.params.canvasCap)
      (fun a => s.regs.frameRect.has (pixelX s.regs.canvasW.toNat a) (pixelY s.regs.canvasW.toNat a) ||
        s.regs.prevRect.has (pixelX s.regs.canvasW.toNat a) (pixelY s.regs.canvasW.toNat a))).freeMem .snap
      (min (4 * s.regs.frameW.toNat * s.regs.frameH.toNat) s.params.snapCap) (fun _ => true) ∧ s.outFootprint = 0 := by
  refine ⟨?_, by simp [State.outFootprint, h, inflates, defilters]⟩
  simp only [State.abandon, h, inflates, State.freeOut]
  rfl

/-- R311: an idle soft reset keeps every memory and table RAM. -/
theorem softReset_idle (s : State) (h : s.status.busy = false) :
    (softReset s).mems = s.mems ∧ (softReset s).tables = s.tables ∧ (softReset s).bus = s.bus ∧
    (softReset s).params = s.params := by
  simp [softReset, h]

end Sys2Proof.Machine
end

