-- ==== Sys2Proof/Laws/PerInstr.lean ====
section
/-! SUPPORT. Statements made per instruction: the word of every instruction fits its code space. -/

namespace Sys2Proof.Laws.EncodesInItsSpace

/-- A well-formed instruction has a word in its own code space, and the word fits the width of the space. -/
def Statement (i : Instr) : Prop := i.wf = true → ∃ w, encode i = some w ∧ w < 2 ^ i.format.width

theorem nop : Statement (.nop) := fun _ => ⟨_, rfl, by decide⟩
theorem inflateZlib : Statement (.inflateZlib) := fun _ => ⟨_, rfl, by decide⟩
theorem inflateRaw : Statement (.inflateRaw) := fun _ => ⟨_, rfl, by decide⟩
theorem defilter : Statement (.defilter) := fun _ => ⟨_, rfl, by decide⟩
theorem decodeFrame : Statement (.decodeFrame) := fun _ => ⟨_, rfl, by decide⟩
theorem composite : Statement (.composite) := fun _ => ⟨_, rfl, by decide⟩
theorem buildTable : Statement (.buildTable) := fun _ => ⟨_, rfl, by decide⟩
theorem creset : Statement (.creset) := fun _ => ⟨_, rfl, by decide⟩
theorem cmdReserved (op : Nat) : Statement (.cmdReserved op) := fun h => by
  simp [Instr.wf] at h
  exact ⟨_, rfl, by show op < 4294967296; omega⟩
theorem stored (b : Bool) : Statement (.stored b) := fun _ => ⟨_, rfl, by cases b <;> decide⟩
theorem fixed (b : Bool) : Statement (.fixed b) := fun _ => ⟨_, rfl, by cases b <;> decide⟩
theorem dynamic (b : Bool) : Statement (.dynamic b) := fun _ => ⟨_, rfl, by cases b <;> decide⟩
theorem btypeReserved (b : Bool) : Statement (.btypeReserved b) := fun _ => ⟨_, rfl, by cases b <;> decide⟩
theorem lit (v : Nat) : Statement (.lit v) := fun h => by
  simp [Instr.wf] at h
  exact ⟨_, rfl, by show v < 512; omega⟩
theorem eob : Statement (.eob) := fun _ => ⟨_, rfl, by decide⟩
theorem len (sym : Nat) : Statement (.len sym) := fun h => by
  simp [Instr.wf] at h
  exact ⟨_, rfl, by show sym < 512; omega⟩
theorem llInvalid (sym : Nat) : Statement (.llInvalid sym) := fun h => by
  simp [Instr.wf] at h
  exact ⟨_, rfl, by show sym < 512; omega⟩
theorem dist (d : Nat) : Statement (.dist d) := fun h => by
  simp [Instr.wf] at h
  exact ⟨_, rfl, by show d < 32; omega⟩
theorem distInvalid (d : Nat) : Statement (.distInvalid d) := fun h => by
  simp [Instr.wf] at h
  exact ⟨_, rfl, by show d < 32; omega⟩
theorem clLen (l : Nat) : Statement (.clLen l) := fun h => by
  simp [Instr.wf] at h
  exact ⟨_, rfl, by show l < 32; omega⟩
theorem clRepeatPrev : Statement (.clRepeatPrev) := fun _ => ⟨_, rfl, by decide⟩
theorem clRepeatZeroShort : Statement (.clRepeatZeroShort) := fun _ => ⟨_, rfl, by decide⟩
theorem clRepeatZeroLong : Statement (.clRepeatZeroLong) := fun _ => ⟨_, rfl, by decide⟩
theorem zlibCmfOk (cinfo : Nat) : Statement (.zlibCmfOk cinfo) := fun h => by
  simp [Instr.wf] at h
  exact ⟨_, rfl, by show cinfo * 16 + 8 < 256; omega⟩
theorem zlibFlgFdictClear (flevel : Nat) (fcheck : Nat) : Statement (.zlibFlgFdictClear flevel fcheck) := fun h => by
  simp [Instr.wf] at h
  exact ⟨_, rfl, by show flevel * 64 + fcheck < 256; omega⟩
theorem filtNone : Statement (.filtNone) := fun _ => ⟨_, rfl, by decide⟩
theorem filtSub : Statement (.filtSub) := fun _ => ⟨_, rfl, by decide⟩
theorem filtUp : Statement (.filtUp) := fun _ => ⟨_, rfl, by decide⟩
theorem filtAverage : Statement (.filtAverage) := fun _ => ⟨_, rfl, by decide⟩
theorem filtPaeth : Statement (.filtPaeth) := fun _ => ⟨_, rfl, by decide⟩
theorem filtInvalid (v : Nat) : Statement (.filtInvalid v) := fun h => by
  simp [Instr.wf] at h
  exact ⟨_, rfl, by show v < 256; omega⟩
theorem disposeNone (u : DisposeUse) : Statement (.disposeNone u) := fun _ => ⟨0, if_pos rfl, by show 0 < 256; decide⟩
theorem disposeBackground (u : DisposeUse) : Statement (.disposeBackground u) := fun _ => ⟨1, if_pos rfl, by show 1 < 256; decide⟩
theorem disposePrevious (u : DisposeUse) : Statement (.disposePrevious u) := fun _ => ⟨2, if_pos rfl, by show 2 < 256; decide⟩
theorem disposeInvalid (u : DisposeUse) (v : Nat) : Statement (.disposeInvalid u v) := fun h => by
  simp [Instr.wf] at h
  exact ⟨v, if_pos rfl, by show v < 256; omega⟩
theorem blendSource (u : BlendUse) : Statement (.blendSource u) := fun _ => ⟨0, if_pos rfl, by show 0 < 256; decide⟩
theorem blendOver (u : BlendUse) : Statement (.blendOver u) := fun _ => ⟨1, if_pos rfl, by show 1 < 256; decide⟩
theorem blendInvalid (u : BlendUse) (v : Nat) : Statement (.blendInvalid u v) := fun h => by
  simp [Instr.wf] at h
  exact ⟨v, if_pos rfl, by show v < 256; omega⟩
theorem blendModeSingleDiv : Statement (.blendModeSingleDiv) := fun _ => ⟨_, rfl, by decide⟩
theorem blendModePerTerm : Statement (.blendModePerTerm) := fun _ => ⟨_, rfl, by decide⟩
theorem blendModeRefTrunc : Statement (.blendModeRefTrunc) := fun _ => ⟨_, rfl, by decide⟩
theorem blendModeReserved : Statement (.blendModeReserved) := fun _ => ⟨_, rfl, by decide⟩
theorem tblTll : Statement (.tblTll) := fun _ => ⟨_, rfl, by decide⟩
theorem tblTd : Statement (.tblTd) := fun _ => ⟨_, rfl, by decide⟩
theorem tblTcl : Statement (.tblTcl) := fun _ => ⟨_, rfl, by decide⟩
theorem tblReserved : Statement (.tblReserved) := fun _ => ⟨_, rfl, by decide⟩
theorem fmtGray1 : Statement (.fmtGray1) := fun _ => ⟨_, rfl, by decide⟩
theorem fmtGray2 : Statement (.fmtGray2) := fun _ => ⟨_, rfl, by decide⟩
theorem fmtGray4 : Statement (.fmtGray4) := fun _ => ⟨_, rfl, by decide⟩
theorem fmtGray8 : Statement (.fmtGray8) := fun _ => ⟨_, rfl, by decide⟩
theorem fmtGray16 : Statement (.fmtGray16) := fun _ => ⟨_, rfl, by decide⟩
theorem fmtRgb8 : Statement (.fmtRgb8) := fun _ => ⟨_, rfl, by decide⟩
theorem fmtRgb16 : Statement (.fmtRgb16) := fun _ => ⟨_, rfl, by decide⟩
theorem fmtIndexed1 : Statement (.fmtIndexed1) := fun _ => ⟨_, rfl, by decide⟩
theorem fmtIndexed2 : Statement (.fmtIndexed2) := fun _ => ⟨_, rfl, by decide⟩
theorem fmtIndexed4 : Statement (.fmtIndexed4) := fun _ => ⟨_, rfl, by decide⟩
theorem fmtIndexed8 : Statement (.fmtIndexed8) := fun _ => ⟨_, rfl, by decide⟩
theorem fmtGrayAlpha8 : Statement (.fmtGrayAlpha8) := fun _ => ⟨_, rfl, by decide⟩
theorem fmtGrayAlpha16 : Statement (.fmtGrayAlpha16) := fun _ => ⟨_, rfl, by decide⟩
theorem fmtRgba8 : Statement (.fmtRgba8) := fun _ => ⟨_, rfl, by decide⟩
theorem fmtRgba16 : Statement (.fmtRgba16) := fun _ => ⟨_, rfl, by decide⟩

end Sys2Proof.Laws.EncodesInItsSpace
end

