-- ==== Sys2Proof/Laws/Stream.lean ====
section
/-! SUPPORT. What reading the input can do: the cursor only advances, stays within the input, and the values have the
widths of the fields (R140 to R142, R149). -/

namespace Sys2Proof.Machine

theorem State.streamBit_le (s : State) (k : Nat) : s.streamBit k ≤ 1 := by
  unfold State.streamBit
  cases (s.rd .inp (s.engine.inbase + k / 8)).getLsbD (k % 8) <;> simp

/-- R140: a bit read either fails at the input's end or advances the cursor by one. -/
theorem State.bitRead_cases (s : State) (site : BitVec 16) (cur : Nat) :
    (8 * s.engine.inlen ≤ cur ∧ s.bitRead site cur = .error (malformed site)) ∨
    (cur < 8 * s.engine.inlen ∧ s.bitRead site cur = .ok (s.streamBit cur, cur + 1)) := by
  unfold State.bitRead
  by_cases h : 8 * s.engine.inlen ≤ cur
  · exact .inl ⟨h, by simp [h]⟩
  · exact .inr ⟨by omega, by simp [h]⟩

/-- R141: a field read either fails with site 0x0201 or gives a `w`-bit value and advances the cursor by `w`, within the
input. -/
theorem State.readBits_cases (s : State) (w cur : Nat) :
    s.readBits w cur = .error (malformed 0x0201) ∨
    ∃ v, s.readBits w cur = .ok (v, cur + w) ∧ v < 2 ^ w ∧ (0 < w → cur + w ≤ 8 * s.engine.inlen) := by
  induction w generalizing cur with
  | zero => exact .inr ⟨0, rfl, by simp, by omega⟩
  | succ w ih =>
    rw [State.readBits]
    rcases s.bitRead_cases 0x0201 cur with ⟨-, h⟩ | ⟨hc, h⟩
    · exact .inl (by rw [h])
    · rw [h]
      rcases ih (cur + 1) with h' | ⟨v, h', hv, hl⟩
      · exact .inl (by simp only [h'])
      · refine .inr ⟨s.streamBit cur + 2 * v, by simp only [h']; congr 2; omega, ?_, fun _ => ?_⟩
        · have := s.streamBit_le cur
          rw [pow_succ]; omega
        · rcases Nat.eq_zero_or_pos w with rfl | hw
          · omega
          · have := hl hw; omega

theorem State.readBits_ok {s : State} {w cur v cur' : Nat} (h : s.readBits w cur = .ok (v, cur')) :
    v < 2 ^ w ∧ cur' = cur + w ∧ (0 < w → cur' ≤ 8 * s.engine.inlen) := by
  rcases s.readBits_cases w cur with h' | ⟨v', h', hv, hl⟩
  · rw [h'] at h; cases h
  · rw [h'] at h; cases h; exact ⟨hv, rfl, hl⟩

theorem State.readBits_error {s : State} {w cur : Nat} {e : Err} (h : s.readBits w cur = .error e) :
    e = malformed 0x0201 := by
  rcases s.readBits_cases w cur with h' | ⟨v', h', -⟩
  · rw [h'] at h; cases h; rfl
  · rw [h'] at h; cases h

/-- R149: a walk gives a symbol of the alphabet after at least one bit and at most those left, or fails with site 0x0601
or 0x0602. -/
theorem walkTable_cases (bit : Nat → Nat) (table : List (BitVec 10)) (n left cur node : Nat) :
    (∃ e, walkTable bit table n left cur node = .error e ∧ (e = malformed 0x0601 ∨ e = malformed 0x0602)) ∨
    ∃ sym cur', walkTable bit table n left cur node = .ok (sym, cur') ∧ sym < n ∧ cur < cur' ∧ cur' ≤ cur + left := by
  induction left generalizing cur node with
  | zero => exact .inl ⟨_, rfl, .inl rfl⟩
  | succ left ih =>
    simp only [walkTable]
    split
    · exact .inr ⟨_, _, rfl, ‹_›, by omega, by omega⟩
    · split
      · exact .inl ⟨_, rfl, .inr rfl⟩
      · rcases ih (cur + 1) ((table.getD (2 * node + bit cur) 0).toNat - n) with h | ⟨sym, cur', h, hs, hl, hu⟩
        · exact .inl h
        · exact .inr ⟨sym, cur', h, hs, by omega, by omega⟩

theorem State.decodeSymbol_ok {s : State} {table : List (BitVec 10)} {n cur sym cur' : Nat}
    (h : s.decodeSymbol table n cur = .ok (sym, cur')) : sym < n ∧ cur < cur' ∧ cur' ≤ 8 * s.engine.inlen := by
  rcases walkTable_cases s.streamBit table n (8 * s.engine.inlen - cur) cur 0 with ⟨e, h', -⟩ | ⟨sym', c, h', hs, hl, hu⟩
  · rw [State.decodeSymbol, h'] at h; cases h
  · rw [State.decodeSymbol, h'] at h; cases h
    exact ⟨hs, hl, by omega⟩

theorem State.decodeSymbol_error {s : State} {table : List (BitVec 10)} {n cur : Nat} {e : Err}
    (h : s.decodeSymbol table n cur = .error e) : e = malformed 0x0601 ∨ e = malformed 0x0602 := by
  rcases walkTable_cases s.streamBit table n (8 * s.engine.inlen - cur) cur 0 with ⟨e', h', he⟩ | ⟨sym', c, h', -⟩
  · rw [State.decodeSymbol, h'] at h; cases h; exact he
  · rw [State.decodeSymbol, h'] at h; cases h

/-! ### Table builds -/

theorem insertCode_slots {n sym code k : Nat} {b b' : Build} (h : insertCode n sym code k b = .ok b') :
    b'.slots.length = b.slots.length := by
  induction k generalizing b with
  | zero => cases h; rfl
  | succ k ih =>
    rw [insertCode] at h
    split at h
    · split at h
      · cases h; simp
      · split at h
        · cases h
        · simpa using ih h
    · split at h
      · cases h
      · split at h
        · cases h
        · simpa using ih h

theorem insertCodes_slots {n sym : Nat} {lens codes : List Nat} {b b' : Build}
    (h : insertCodes n sym lens codes b = .ok b') : b'.slots.length = b.slots.length := by
  induction lens generalizing sym codes b with
  | nil => cases codes <;> (simp only [insertCodes] at h; cases h; rfl)
  | cons l lens ih =>
    cases codes with
    | nil => simp only [insertCodes] at h; cases h; rfl
    | cons c codes =>
      simp only [insertCodes] at h
      split at h
      · cases h
      · rename_i b₁ hb₁
        rw [ih h, insertCode_slots hb₁]

/-- R144: a build over n lengths gives 2n entries. -/
theorem buildTable_length {lens : List Nat} {entries : List (BitVec 10)} {b : Build}
    (h : buildTable lens = .ok (entries, b)) : entries.length = 2 * lens.length := by
  unfold buildTable at h
  split at h
  · cases h
  · rename_i b₁ hb₁
    cases h
    rw [List.length_map, insertCodes_slots hb₁]
    simp [Build.start]

theorem insertCode_error {n sym code k : Nat} {b : Build} {e : Err} (h : insertCode n sym code k b = .error e) :
    e = malformed 0x0501 ∨ e = malformed 0x0502 := by
  induction k generalizing b with
  | zero => cases h
  | succ k ih =>
    rw [insertCode] at h
    split at h
    · split at h
      · cases h
      · split at h
        · cases h; exact .inl rfl
        · exact ih h
    · split at h
      · cases h; exact .inr rfl
      · split at h
        · cases h; exact .inr rfl
        · exact ih h

theorem insertCodes_error {n sym : Nat} {lens codes : List Nat} {b : Build} {e : Err}
    (h : insertCodes n sym lens codes b = .error e) : e = malformed 0x0501 ∨ e = malformed 0x0502 := by
  induction lens generalizing sym codes b with
  | nil => cases codes <;> (simp only [insertCodes] at h; cases h)
  | cons l lens ih =>
    cases codes with
    | nil => simp only [insertCodes] at h; cases h
    | cons c codes =>
      simp only [insertCodes] at h
      split at h
      · rename_i e₁ he₁
        cases h
        exact insertCode_error he₁
      · exact ih h

/-- R144: a failing build raises 0x0501 or 0x0502. -/
theorem buildTable_error {lens : List Nat} {e : Err} (h : buildTable lens = .error e) :
    e = malformed 0x0501 ∨ e = malformed 0x0502 := by
  unfold buildTable at h
  split at h
  · rename_i e₁ he₁
    cases h
    exact insertCodes_error he₁
  · cases h

/-- R145: what a build into a RAM does. -/
theorem buildInto_cases (id : TableId) (before : List TableId) (lens : List Nat) (s : State) :
    (∃ e, buildTable lens = .error e ∧ buildInto id before lens s = .error { e with tables := id :: before }) ∨
    ∃ entries b, buildTable lens = .ok (entries, b) ∧ buildInto id before lens s =
      .ok ((s.setTables (s.tables.set id ((s.tables.get id).load lens.length entries))).setEngine
        { s.engine with build := b }) := by
  unfold buildInto
  rcases h : buildTable lens with e | ⟨entries, b⟩
  · exact .inl ⟨e, rfl, rfl⟩
  · exact .inr ⟨entries, b, rfl, rfl⟩

end Sys2Proof.Machine
end

