-- ==== Sys2Proof/Machine/Assembler.lean ====
section
/-! DEFINITION. The stream notation (R128): the bytes of a DEFLATE stream written as a list of elements. The machine reads
streams; this is how a host or a test writes one. -/

namespace Sys2Proof.Machine

/-- One element of the notation. -/
inductive StreamElem where
  /-- `ZHDR cmf, flg`. -/
  | zhdr (cmf flg : Nat)
  /-- `BLOCK final=<0|1> type=<STORED|FIXED|DYNAMIC|RES>`, the type as BTYPE. -/
  | block (final : Bool) (btype : Nat)
  /-- `STORED b0 ... bk`. -/
  | stored (bytes : List Nat)
  /-- `LIT v` of a fixed block. -/
  | lit (v : Nat)
  /-- `EOB` of a fixed block. -/
  | eob
  /-- `MATCH len, dist` of a fixed block. -/
  | backref (len dist : Nat)
  deriving DecidableEq, Repr

/-- R78: a field in stream order, least significant bit first. -/
def fieldBits (w v : Nat) : List Nat := (List.range w).map (fun i => v / 2 ^ i % 2)

/-- R79: a code in stream order, most significant bit first. -/
def codeBits (w v : Nat) : List Nat := (fieldBits w v).reverse

/-- R115: the code of a literal/length symbol in a fixed block. -/
def fixedLLBits (s : Nat) : List Nat :=
  if s ≤ 143 then codeBits 8 (0x30 + s)
  else if s ≤ 255 then codeBits 9 (0x190 + (s - 144))
  else if s ≤ 279 then codeBits 7 (s - 256)
  else codeBits 8 (0xC0 + (s - 280))

/-- R128: the length symbol whose range holds `len`, taking 285 for 258. -/
def lengthSymbol (len : Nat) : Nat :=
  if len = 258 then 285 else (((List.range 28).map (257 + ·)).filter (fun s => lbase s ≤ len)).getLastD 257

/-- R128: the distance symbol whose range holds `dist`. -/
def distSymbol (dist : Nat) : Nat := ((List.range 30).filter (fun d => dbase d ≤ dist)).getLastD 0

/-- R128: the bits of one element, written after `k` bits. -/
def StreamElem.bits (k : Nat) : StreamElem → List Nat
  | .zhdr cmf flg => fieldBits 8 cmf ++ fieldBits 8 flg
  | .block final btype => fieldBits 1 final.toNat ++ fieldBits 2 btype
  | .stored bytes =>
    List.replicate ((8 - k % 8) % 8) 0 ++ fieldBits 16 bytes.length ++ fieldBits 16 (bytes.length ^^^ 0xFFFF) ++
      bytes.flatMap (fieldBits 8)
  | .lit v => fixedLLBits v
  | .eob => fixedLLBits 256
  | .backref len dist =>
    fixedLLBits (lengthSymbol len) ++ fieldBits (lextra (lengthSymbol len)) (len - lbase (lengthSymbol len)) ++
      codeBits 5 (distSymbol dist) ++ fieldBits (dextra (distSymbol dist)) (dist - dbase (distSymbol dist))

/-- R128 and R77: bits packed into bytes, the first bit least significant, the last byte padded with zero bits. -/
def packBits (bits : List Nat) : List Byte :=
  (List.range (ceilDiv bits.length 8)).map (fun j =>
    BitVec.ofNat 8 ((List.range 8).map (fun i => bits.getD (8 * j + i) 0 * 2 ^ i)).sum)

/-- R128: the bytes of a stream. -/
def assemble (es : List StreamElem) : List Byte := packBits (es.foldl (fun bits e => bits ++ e.bits bits.length) [])

end Sys2Proof.Machine
end

