-- ==== Sys2Proof/Tests/Slice0.lean ====
section
/-! SUPPORT. The model's own tests: ill-formed terms, words written out from 30_encoding.md, one step at a time against the
examples of 95_test_vectors.md ("V" numbers) and of the rules, and a witness for the hypotheses of each obligation. -/

namespace Sys2Proof.Tests

open Sys2Proof Sys2Proof.Machine Sys2Proof.Claims

/-! ### WellFormed: an ill-formed term for each check -/

theorem test_wf_cmdReserved : (Instr.cmdReserved 7).wf = false ∧ (Instr.cmdReserved 16).wf = false := by decide
theorem test_wf_lit : (Instr.lit 256).wf = false := by decide
theorem test_wf_len : (Instr.len 256).wf = false ∧ (Instr.len 286).wf = false := by decide
theorem test_wf_llInvalid : (Instr.llInvalid 285).wf = false ∧ (Instr.llInvalid 288).wf = false := by decide
theorem test_wf_dist : (Instr.dist 30).wf = false := by decide
theorem test_wf_distInvalid : (Instr.distInvalid 29).wf = false ∧ (Instr.distInvalid 32).wf = false := by decide
theorem test_wf_clLen : (Instr.clLen 16).wf = false := by decide
theorem test_wf_zlibCmfOk : (Instr.zlibCmfOk 8).wf = false := by decide
theorem test_wf_zlibFlg : (Instr.zlibFlgFdictClear 4 0).wf = false ∧ (Instr.zlibFlgFdictClear 0 32).wf = false := by decide
theorem test_wf_filtInvalid : (Instr.filtInvalid 4).wf = false ∧ (Instr.filtInvalid 256).wf = false := by decide
theorem test_wf_disposeInvalid :
    (Instr.disposeInvalid .check 2).wf = false ∧ (Instr.disposeInvalid .snap 256).wf = false := by decide
theorem test_wf_blendInvalid :
    (Instr.blendInvalid .check 1).wf = false ∧ (Instr.blendInvalid .paint 256).wf = false := by decide

/-! ### Decode: words written out from the encodings -/

/-- R100: OP in [3:0], bits [31:4] ignored. -/
theorem test_decode_cmd :
    [0b0000, 0b0001, 0b0010, 0b0011, 0b0100, 0b0101, 0b0110, 0b0111, 0b1000, 0xFFFFFFFF].map (decode .cmd) =
      [.ok .nop, .ok .inflateZlib, .ok .inflateRaw, .ok .defilter, .ok .decodeFrame, .ok .composite, .ok .buildTable,
       .ok .creset, .ok (.cmdReserved 8), .ok (.cmdReserved 15)] := by decide

/-- R103, R104: BTYPE in [2:1], BFINAL in [0]; V2.5's bytes. -/
theorem test_decode_blockHdr :
    [0b001, 0b011, 0b101, 0b111, 0b010, 0b000].map (decode .blockHdr) =
      [.ok (.stored true), .ok (.fixed true), .ok (.dynamic true), .ok (.btypeReserved true), .ok (.fixed false),
       .ok (.stored false)] := by decide

/-- R115's examples, and the ends of its rows. -/
theorem test_decode_fixed_ll :
    [0b00110000, 0b01110001, 0b10111111, 0b11000000, 0b11000101, 0b11000110, 0b11000111, 0b00101111].map (decode .fixedLL8) =
      [.ok (.lit 0), .ok (.lit 0x41), .ok (.lit 143), .ok (.len 280), .ok (.len 285), .ok (.llInvalid 286),
       .ok (.llInvalid 287), .error .noCode] ∧
    [0b110010000, 0b111111111].map (decode .fixedLL9) = [.ok (.lit 144), .ok (.lit 255)] ∧
    [0b0000000, 0b0000001, 0b0010111, 0b0011000].map (decode .fixedLL7) =
      [.ok .eob, .ok (.len 257), .ok (.len 279), .error .noCode] := by decide

/-- R109: the decoded literal/length symbols. -/
theorem test_decode_llSym :
    [0, 255, 256, 257, 285, 286, 287, 288].map (decode .llSym) =
      [.ok (.lit 0), .ok (.lit 255), .ok .eob, .ok (.len 257), .ok (.len 285), .ok (.llInvalid 286), .ok (.llInvalid 287),
       .error .noCode] := by decide

/-- R111, R116. -/
theorem test_decode_dist :
    [0b00000, 0b11101, 0b11110, 0b11111].map (decode .fixedD5) =
      [.ok (.dist 0), .ok (.dist 29), .ok (.distInvalid 30), .ok (.distInvalid 31)] ∧
    decode .dSym 29 = .ok (.dist 29) ∧ decode .dSym 30 = .ok (.distInvalid 30) := by decide

/-- R108. -/
theorem test_decode_clSym :
    [0, 15, 16, 17, 18, 19].map (decode .clSym) =
      [.ok (.clLen 0), .ok (.clLen 15), .ok .clRepeatPrev, .ok .clRepeatZeroShort, .ok .clRepeatZeroLong,
       .error .noCode] := by decide

/-- R102, R191, R192: V5.1 to V5.9's bytes. -/
theorem test_decode_zlib :
    [0x78, 0x08, 0x88, 0x77].map (decode .zlibCmf) =
      [.ok (.zlibCmfOk 7), .ok (.zlibCmfOk 0), .error .cmfMethod, .error .cmfMethod] ∧
    [0x9C, 0x01, 0x20].map (decode .zlibFlg) =
      [.ok (.zlibFlgFdictClear 2 28), .ok (.zlibFlgFdictClear 0 1), .error .fdictSet] := by decide

/-- R120. -/
theorem test_decode_filter :
    [0, 1, 2, 3, 4, 5, 255].map (decode .filterType) =
      [.ok .filtNone, .ok .filtSub, .ok .filtUp, .ok .filtAverage, .ok .filtPaeth, .ok (.filtInvalid 5),
       .ok (.filtInvalid 255)] := by decide

/-- R122. -/
theorem test_decode_ops :
    [0, 1, 2, 3, 255].map (decode (.dispose .check)) =
      [.ok (.disposeNone .check), .ok (.disposeBackground .check), .ok (.disposePrevious .check),
       .ok (.disposeInvalid .check 3), .ok (.disposeInvalid .check 255)] ∧
    [0, 1, 2].map (decode (.blend .paint)) =
      [.ok (.blendSource .paint), .ok (.blendOver .paint), .ok (.blendInvalid .paint 2)] := by decide

/-- R31, R45. -/
theorem test_decode_fields :
    [0, 1, 2, 3].map (decode .blendMode) =
      [.ok .blendModeSingleDiv, .ok .blendModePerTerm, .ok .blendModeRefTrunc, .ok .blendModeReserved] ∧
    [0, 1, 2, 3].map (decode .tblSel) = [.ok .tblTll, .ok .tblTd, .ok .tblTcl, .ok .tblReserved] := by decide

/-- R121, R200: BIT_DEPTH in [15:8], COLOR_TYPE in [7:0]; the last three are unmatched (V7.8, V9.8, COLOR = 0). -/
theorem test_decode_color :
    [0x0100, 0x0200, 0x0400, 0x0800, 0x1000, 0x0802, 0x1002, 0x0103, 0x0203, 0x0403, 0x0803, 0x0804, 0x1004, 0x0806,
     0x1006].map (decode .color) =
      [.ok .fmtGray1, .ok .fmtGray2, .ok .fmtGray4, .ok .fmtGray8, .ok .fmtGray16, .ok .fmtRgb8, .ok .fmtRgb16,
       .ok .fmtIndexed1, .ok .fmtIndexed2, .ok .fmtIndexed4, .ok .fmtIndexed8, .ok .fmtGrayAlpha8, .ok .fmtGrayAlpha16,
       .ok .fmtRgba8, .ok .fmtRgba16] ∧
    [0x0402, 0x1003, 0x0000].map (decode .color) =
      [.error .unmatchedFormat, .error .unmatchedFormat, .error .unmatchedFormat] := by decide

/-! ### Small states -/

/-- The bytes of a memory from address 0. -/
def bytes (l : List Nat) : Mem := Mem.fill 0 l.length (fun k _ => BitVec.ofNat 8 (l.getD k 0)) []

/-- Small parameters. -/
def small : Params := { inCap := 32, outCap := 32, canvasCap := 16, snapCap := 16, base := 0x80000000 }

/-- The reset state with small parameters. -/
def quiet : State := { State.reset with params := small }

/-- A quiet state with bytes in IN as the payload, and an output buffer. -/
def payload (l : List Nat) (outSize : Nat) : State :=
  (quiet.setMem .inp (bytes l)).setRegs
    { Regs.reset with inLen := BitVec.ofNat 32 l.length, outSize := BitVec.ofNat 32 outSize }

/-- INFLATE_RAW running on bytes of IN, at a cursor, with bytes already in OUT and a capacity. -/
def inflating (l out : List Nat) (cur cap : Nat) (p : Phase) : State :=
  (((payload l cap).setMem .out (bytes out)).setStatus { Status.reset with busy := true }) |> fun s =>
    (s.setRegs { s.regs with op := 2 }).setEngine
      { Engine.reset with phase := p, cur := cur, pos := out.length, inlen := l.length, cap := cap }

/-- The geometry and format registers of a frame of `w` by `h` pixels. -/
def frameRegs (ct d w h : Nat) : Regs :=
  { Regs.reset with colorType := BitVec.ofNat 8 ct, bitDepth := BitVec.ofNat 8 d, frameW := BitVec.ofNat 32 w,
                    frameH := BitVec.ofNat 32 h }

/-- DEFILTER running at row `row`, with the given bytes in OUT. -/
def filtering (ct d w h bpp row : Nat) (out : List Nat) : State :=
  (((quiet.setMem .out (bytes out)).setStatus { Status.reset with busy := true }).setRegs
    { frameRegs ct d w h with op := 3 }).setEngine { Engine.reset with phase := .filt, bpp := bpp, row := row }

/-- The palette of 95_test_vectors.md 9.2. -/
def palette : List Nat := [0xFF, 0, 0, 0, 0, 0xFF, 0, 0xFF, 0]

/-- COMPOSITE running on the block of 95_test_vectors.md 9.2: a 2 by 2 canvas of 0x11 bytes, an indexed 8-bit frame at
(x, y). -/
def compositing (p : Phase) (x y w h dispose blend : Nat) (indices : List Nat) : State :=
  let s := { quiet with mems := { quiet.mems with out := bytes indices, canvas := bytes (List.replicate 16 0x11),
                                                  pal := bytes palette, trns := bytes [0xFF, 0x80, 0] } }
  ((s.setStatus { Status.reset with busy := true }).setRegs
    { frameRegs 3 8 w h with op := 5, frameX := BitVec.ofNat 32 x, frameY := BitVec.ofNat 32 y,
                             dispose := BitVec.ofNat 8 dispose, blend := BitVec.ofNat 8 blend, canvasW := 2, canvasH := 2,
                             trnsLen := 3 }).setEngine { Engine.reset with phase := p, bpp := 8 }

/-- The same block with no command running. -/
def beforeComposite (x y w h dispose blend : Nat) (indices : List Nat) : State :=
  let s := compositing .idle x y w h dispose blend indices
  s.setStatus Status.reset

/-- BUILD_TABLE running, with lengths in IN. -/
def building (sel n : Nat) (lens : List Nat) : State :=
  ((quiet.setMem .inp (bytes lens)).setStatus { Status.reset with busy := true }).setRegs
    { Regs.reset with op := 6, tblSel := BitVec.ofNat 2 sel, tblN := BitVec.ofNat 9 n }
  |> fun s => s.setEngine { Engine.reset with phase := .tblSel }

/-- A state in the ERROR state. -/
def failed : State :=
  (quiet.setStatus { busy := false, done := false, error := true, code := 8 }).setRegs { Regs.reset with errSite := 0x0A00 }

/-- The next state of an outcome, tested. -/
def after (o : Host.Outcome State Fault Refusal) (f : State → Bool) : Bool :=
  match o with
  | .next t => f t
  | _ => false

/-- The outcome ends in an error with this ERRCODE and ERR_SITE. -/
def raised (o : Host.Outcome State Fault Refusal) (code : BitVec 4) (site : BitVec 16) : Bool :=
  after o (fun t => t.status == { busy := false, done := false, error := true, code := code } && t.regs.errSite == site &&
    t.engine.phase == .idle)

/-- The first bytes of a memory. -/
def shows (t : State) (id : MemId) (l : List Nat) : Bool :=
  (List.range l.length).all (fun k => (t.rd id k).toNat == l.getD k 0)

/-! ### Commands, one step -/

/-- V10.1: DONE stays 0. -/
theorem test_nop : after (exec .nop quiet) (fun t => t.regs.op == 0 && t.status == Status.reset) = true := by decide
/-- V5.1's stream: the command starts. -/
theorem test_inflateZlib :
    after (exec .inflateZlib (payload [0x78, 0x01, 0x01, 0, 0, 0xFF, 0xFF] 0))
      (fun t => t.status.busy && t.regs.op == 1 && t.engine.phase == .zlibCmf) = true := by decide
/-- V10.7 with the small IN: the sum is one past the capacity. -/
theorem test_inflateRaw_checkIn :
    raised (exec .inflateRaw (quiet.setRegs { Regs.reset with inBase := 20, inLen := 13 })) 8 0x0A01 = true := by decide
/-- R252: OUT_SIZE one past the capacity. -/
theorem test_inflateRaw_room : raised (exec .inflateRaw (payload [3, 0] 33)) 1 0x0A02 = true := by decide
theorem test_defilter :
    after (exec .defilter quiet) (fun t => t.status.busy && t.regs.op == 3 && t.engine.phase == .format) = true := by decide
/-- V7.9: CheckIn comes first. -/
theorem test_decodeFrame :
    raised (exec .decodeFrame (quiet.setRegs { Regs.reset with inBase := 32, inLen := 13 })) 8 0x0A01 = true := by decide
theorem test_composite :
    after (exec .composite quiet) (fun t => t.status.busy && t.regs.op == 5 && t.engine.phase == .format) = true := by decide
theorem test_buildTable :
    after (exec .buildTable quiet) (fun t => t.status.busy && t.regs.op == 6 && t.engine.phase == .tblSel) = true := by decide
/-- V10.2, from a recorded frame. -/
theorem test_creset :
    after (exec .creset (quiet.setRegs { Regs.reset with prevDispose := 2, prevX := 1, prevW := 3 }))
      (fun t => t.status.done && !t.status.busy && t.regs == { Regs.reset with op := 7 }) = true := by decide
/-- V10.3 -/
theorem test_cmdReserved :
    (raised (exec (.cmdReserved 9) quiet) 8 0x0A00 && after (exec (.cmdReserved 9) quiet) (fun t => t.regs.op == 9)) = true := by
  decide
/-- V10.4: ignored while ERROR is set, but for its OP. -/
theorem test_creset_failed :
    after (exec .creset failed) (fun t => t.regs.op == 7 && t.regs.errSite == 0x0A00 && !t.status.done) = true := by decide

/-! ### The zlib header -/

/-- V5.2: 78 9C. -/
theorem test_zlibFlg :
    after (exec (.zlibFlgFdictClear 2 28) (payload [0x78, 0x9C, 3, 0] 0))
      (fun t => t.engine.phase == .hdr && t.engine.inbase == 2 && t.engine.inlen == 2 && t.engine.cur == 0) = true := by decide
theorem test_zlibCmf :
    after (exec (.zlibCmfOk 7) (payload [0x78, 0x9C] 0)) (fun t => t.engine.phase == .zlibFlg) = true := by decide
/-- INFLATE_ZLIB about to read a header of two bytes. -/
def header (p : Phase) (cmf flg : Nat) : State :=
  ((payload [cmf, flg] 0).setStatus { Status.reset with busy := true }) |> fun s =>
    (s.setRegs { s.regs with op := 1 }).goto p
/-- V5.5, V5.6: FCHECK comes first. V5.7, V5.9, V5.18: CM and CINFO come before FDICT. -/
theorem test_header_errors :
    (raised (step (header .zlibCmf 0x78 0x00)) 4 0x0102 && raised (step (header .zlibCmf 0x79 0x1C)) 4 0x0102 &&
     raised (step (header .zlibCmf 0x88 0x1C)) 4 0x0103 && raised (step (header .zlibCmf 0x77 0x09)) 4 0x0103 &&
     raised (step (header .zlibCmf 0x88 0x3B)) 4 0x0103) = true := by decide
/-- V5.8 -/
theorem test_header_fdict : raised (step (header .zlibFlg 0x78 0x20)) 4 0x0104 = true := by decide

/-! ### Inflate, one element -/

/-- V2.2: ReadBits(3), (5), (4), (4) of B5 3C. -/
theorem test_readBits :
    let s := inflating [0xB5, 0x3C] [] 0 0 .hdr
    s.readBits 3 0 = .ok (5, 3) ∧ s.readBits 5 3 = .ok (22, 8) ∧ s.readBits 4 8 = .ok (12, 12) ∧
    s.readBits 4 12 = .ok (3, 16) ∧ s.readBits 1 16 = .error (malformed 0x0201) := by decide
/-- V4.1.1 -/
theorem test_stored :
    after (step (inflating [0x01, 3, 0, 0xFC, 0xFF, 0x41, 0x42, 0x43] [] 0 3 .hdr))
      (fun t => shows t .out [0x41, 0x42, 0x43, 0] && t.regs.outPos == 3 && t.regs.bitPos == 64 && t.status.done &&
        !t.status.busy) = true := by decide
/-- V4.1.4 to V4.1.7. -/
theorem test_stored_errors :
    (raised (step (inflating [0x01, 3, 0, 0xFB, 0xFF, 0x41, 0x42, 0x43] [] 0 8 .hdr)) 4 0x0302 &&
     raised (step (inflating [0x01, 3, 0] [] 0 8 .hdr)) 4 0x0301 &&
     raised (step (inflating [0x01, 3, 0, 0xFC, 0xFF, 0x41, 0x42] [] 0 8 .hdr)) 4 0x0303 &&
     raised (step (inflating [0x01, 3, 0, 0xFC, 0xFF, 0x41, 0x42, 0x43] [] 0 2 .hdr)) 4 0x0304) = true := by decide
/-- V4.2.5's header. -/
theorem test_fixed :
    after (step (inflating [3, 0] [] 0 0 .hdr))
      (fun t => t.engine.phase == .syms && t.engine.pair == .fixed && t.engine.bfinal && t.engine.cur == 3) = true := by decide
/-- V4.3.1's header: HLIT 258, HDIST 2, HCLEN 18, and the code-length-code lengths by symbol. -/
theorem test_dynamic :
    after (step (inflating [0x0D, 0xC1, 0x01, 0x0D, 0, 0, 0, 0x40, 0xB0, 0xAC, 0xF4, 0x0F, 0xC1, 0x8E, 0x0B] [] 0 5 .hdr))
      (fun t => t.engine.phase == .codeLens && t.engine.hlit == 258 && t.engine.hdist == 2 && t.engine.hclen == 18 &&
        t.engine.clLen == [3, 3, 1, 0, 0, 0, 0, 0, 0, 0, 0, 0, 0, 0, 0, 0, 0, 0, 2]) = true := by decide
/-- V4.3.6: an oversubscribed code-length code. -/
theorem test_dynamic_oversubscribed : raised (step (inflating [0x05, 0, 0x92, 0] [] 0 4 .hdr)) 4 0x0502 = true := by decide
/-- V2.5: 0x07. -/
theorem test_btypeReserved : raised (step (inflating [0x07] [] 0 4 .hdr)) 4 0x0202 = true := by decide
/-- V4.2.1's first literal, with its code. -/
theorem test_lit :
    after (step (inflating [0x4B, 0x4C, 0x4A, 6, 0] [] 3 3 .syms))
      (fun t => shows t .out [0x61, 0] && t.engine.pos == 1 && t.engine.cur == 11) = true := by decide +kernel
/-- V4.2.14: pos at cap. -/
theorem test_lit_full : raised (exec (.lit 0x63) (inflating [0x4B] [0x61, 0x62] 0 2 .syms)) 4 0x0701 = true := by decide
/-- V4.2.5: ten bits in all. -/
theorem test_eob :
    after (exec .eob ((inflating [3, 0] [] 10 0 .syms) |> fun s => s.setEngine { s.engine with bfinal := true }))
      (fun t => t.status.done && t.regs.outPos == 0 && t.regs.bitPos == 10) = true := by decide
/-- V4.2.4: symbol 284 with extra value 31 is 258. -/
theorem test_len :
    after (exec (.len 284) (inflating [0xAB, 0x1A, 0xF9, 0, 0] [0x7A] 19 259 .syms))
      (fun t => t.engine.length == 258 && t.engine.cur == 24 && t.engine.phase == .dist) = true := by decide
theorem test_llInvalid : raised (exec (.llInvalid 286) (inflating [0x73, 0x1C, 3] [0x41] 19 8 .syms)) 4 0x0702 = true := by decide
/-- V4.2.2: length 4, distance 2. -/
theorem test_dist :
    after (exec (.dist 1) ((inflating [0x4B, 0x4C, 2, 0x41, 0] [0x61, 0x62] 31 6 .dist) |> fun s =>
      s.setEngine { s.engine with length := 4 }))
      (fun t => shows t .out [0x61, 0x62, 0x61, 0x62, 0x61, 0x62, 0] && t.engine.pos == 6) = true := by decide
/-- V4.2.9 (distance > pos) and V4.2.15 (past cap). -/
theorem test_dist_errors :
    (raised (exec (.dist 1) (inflating [0] [0x41] 0 8 .dist)) 4 0x0704 &&
     raised (exec (.dist 0) ((inflating [0] [0x41] 0 4 .dist) |> fun s => s.setEngine { s.engine with length := 4 }))
       4 0x0705) = true := by decide
theorem test_distInvalid : raised (exec (.distInvalid 30) (inflating [0] [0x41] 0 8 .dist)) 4 0x0703 = true := by decide

/-- An inflate in the code lengths of a dynamic header. -/
def lengthsAt (l : List Nat) (hlit hdist : Nat) (lens : List Nat) : State :=
  let s := inflating l [] 0 4 .codeLens
  s.setEngine { s.engine with hlit := hlit, hdist := hdist, lens := lens, pair := .dynamic }

theorem test_clLen :
    after (exec (.clLen 7) (lengthsAt [0] 257 1 [3])) (fun t => t.engine.lens == [3, 7] && t.engine.phase == .codeLens) = true := by
  decide
/-- R167: the last length repeats 3 + 2 times, with extra bits 0, 1 in stream order. -/
theorem test_clRepeatPrev :
    after (exec .clRepeatPrev (lengthsAt [0b10] 257 1 [3])) (fun t => t.engine.lens == [3, 3, 3, 3, 3, 3]) = true := by decide
/-- V4.3.4 -/
theorem test_clRepeatPrev_first : raised (exec .clRepeatPrev (lengthsAt [0] 257 1 [])) 4 0x0401 = true := by decide
theorem test_clRepeatZeroShort :
    after (exec .clRepeatZeroShort (lengthsAt [0b001] 257 1 [])) (fun t => t.engine.lens == [0, 0, 0, 0]) = true := by decide
/-- V4.3.1's first repeat, 18+86: 97 zeros. -/
theorem test_clRepeatZeroLong :
    after (exec .clRepeatZeroLong (lengthsAt [86] 258 2 []))
      (fun t => t.engine.lens == List.replicate 97 0 && t.engine.cur == 7) = true := by decide
/-- R169: a repeat past the end. -/
theorem test_clRepeatZeroLong_overrun : raised (exec .clRepeatZeroLong (lengthsAt [0] 9 1 [])) 4 0x0402 = true := by decide
/-- R170: the last length builds TLL and TD; symbol 0 has the one-bit code 0 in both. -/
theorem test_clLen_last :
    after (exec (.clLen 1) (lengthsAt [0] 1 1 [1]))
      (fun t => t.engine.phase == .syms && t.tables.tll.n == 288 && t.tables.td.n == 32 && t.tables.td.entries.length == 64 &&
        t.tables.tll.entries.length == 576) = true := by decide +kernel

/-! ### The table builder (section 3's table) -/

/-- V3.1, V3.2, V3.3, V3.6 and V3.12. -/
theorem test_build :
    (buildTable [2, 1, 3, 3]).map Prod.fst = .ok [1, 5, 0, 6, 2, 3, 0, 0] ∧
    (buildTable [1, 1]).map Prod.fst = .ok [0, 1, 0, 0] ∧ (buildTable [1]).map Prod.fst = .ok [0, 0] ∧
    (buildTable [3, 3, 3, 3, 3, 2, 4, 4]).map Prod.fst = .ok [9, 11, 5, 10, 0, 1, 12, 13, 2, 3, 4, 14, 6, 7, 0, 0] ∧
    (buildTable [2, 2, 0]).map Prod.fst = .ok [4, 0, 0, 1, 0, 0] := by decide
/-- V3.8 to V3.11. -/
theorem test_build_errors :
    (buildTable [1, 1, 1]).map Prod.fst = .error (malformed 0x0502) ∧
    (buildTable [4, 4, 0, 0]).map Prod.fst = .error (malformed 0x0501) ∧
    (buildTable [2]).map Prod.fst = .error (malformed 0x0501) ∧
    (buildTable [1, 2, 2, 2]).map Prod.fst = .error (malformed 0x0502) := by decide
/-- The decode checks on V3.1: 110 is symbol 2; 1, 1 and then the end raises 0x0601. -/
theorem test_walk :
    walkTable (fun k => [1, 1, 0].getD k 0) [1, 5, 0, 6, 2, 3, 0, 0] 4 3 0 0 = .ok (2, 3) ∧
    walkTable (fun k => [1, 1].getD k 0) [1, 5, 0, 6, 2, 3, 0, 0] 4 2 0 0 = .error (malformed 0x0601) := by decide

/-! ### BUILD_TABLE (section 8) -/

/-- V8.1 -/
theorem test_tblTcl :
    after (exec .tblTcl (building 2 4 [2, 1, 3, 3]))
      (fun t => t.tables.tcl.entries.take 9 == [1, 5, 0, 6, 2, 3, 0, 0, 0] && t.tables.tcl.n == 4 && t.status.done) = true := by
  decide
/-- V8.2 -/
theorem test_tblTd :
    after (exec .tblTd (building 1 2 [1, 1])) (fun t => t.tables.td.entries.take 4 == [0, 1, 0, 0]) = true := by decide
/-- V8.8 and V8.7. -/
theorem test_tblTll :
    (raised (exec .tblTll (building 0 3 [1, 1, 1])) 4 0x0502 && raised (exec .tblTll (building 0 2 [0x10, 1])) 8 0x0C04) = true := by
  decide
/-- V8.3 -/
theorem test_tblReserved : raised (exec .tblReserved (building 3 2 [1, 1])) 8 0x0C01 = true := by decide

/-! ### Formats and filters (section 6) -/

/-- R200: (2, 16) is 48 bits per pixel. R202: S is 13 for a 2 by 1 frame. -/
theorem test_fmtRgb16 :
    after (exec .fmtRgb16 ((filtering 2 16 2 1 0 0 []).goto .format))
      (fun t => t.engine.phase == .filt && t.engine.bpp == 48) = true := by decide
/-- V7.7, V7.8 and V7.10. -/
theorem test_format_errors :
    (raised (step ((filtering 0 8 0 2 0 0 []).goto .format)) 8 0x0A03 &&
     raised (step ((filtering 2 4 2 2 0 0 []).goto .format)) 7 0x0B01 &&
     raised (exec .fmtGray8 ((filtering 0 8 8 8 0 0 []).goto .format |> fun s => s.setRegs { s.regs with op := 4 })) 1 0x0A05) =
      true := by decide
/-- The second row of V6.1, the first reconstructed in place. -/
theorem test_filtNone :
    after (step (filtering 0 8 3 2 8 1 [0x0A, 0x14, 0x1E, 0x1E, 0, 0x28, 0x32, 0x3C]))
      (fun t => shows t .out [0x0A, 0x14, 0x1E, 0x28, 0x32, 0x3C] && t.regs.outSize == 6 && t.status.done) = true := by decide
/-- V6.2 -/
theorem test_filtSub :
    after (step (filtering 0 8 3 2 8 1 [0x0A, 0x1E, 0x3C, 0x1E, 1, 0xFA, 0x0A, 0x0A]))
      (fun t => shows t .out [0x0A, 0x1E, 0x3C, 0xFA, 0x04, 0x0E]) = true := by decide
/-- V6.3 -/
theorem test_filtUp :
    after (step (filtering 0 8 3 2 8 1 [0x0A, 0x14, 0x1E, 0x1E, 2, 0xFA, 0x0A, 0x0A]))
      (fun t => shows t .out [0x0A, 0x14, 0x1E, 0x04, 0x1E, 0x28]) = true := by decide
/-- V6.4, and V6.6: the sum is not reduced. -/
theorem test_filtAverage :
    (after (step (filtering 0 8 3 2 8 1 [0x0A, 0x19, 0x2A, 0x1E, 3, 5, 6, 7]))
      (fun t => shows t .out [0x0A, 0x19, 0x2A, 0x0A, 0x17, 0x27]) &&
     after (step (filtering 0 8 2 2 8 1 [0xC8, 0xFA, 0xFA, 3, 0, 0]))
      (fun t => shows t .out [0xC8, 0xFA, 0x64, 0xAF])) = true := by decide
/-- V6.5 -/
theorem test_filtPaeth :
    after (step (filtering 0 8 3 2 8 1 [0x0A, 0x1E, 0x3C, 0x1E, 4, 1, 2, 3]))
      (fun t => shows t .out [0x0A, 0x1E, 0x3C, 0x0B, 0x20, 0x3F]) = true := by decide
/-- R209's examples and V6's ties. -/
theorem test_paeth :
    paeth 10 20 15 = 15 ∧ paeth 3 7 7 = 3 ∧ paeth 100 200 150 = 150 ∧ paeth 255 0 128 = 128 ∧ paeth 50 60 255 = 50 := by decide
/-- V6.10 -/
theorem test_filtInvalid : raised (step (filtering 0 8 1 1 8 0 [5, 7])) 4 0x0801 = true := by decide
/-- V6.15: the two low bits keep what they held. -/
theorem test_compact :
    after (step (filtering 0 1 3 2 1 1 [0xBF, 0xBF, 0, 0x7F]))
      (fun t => shows t .out [0xAF] && t.regs.outSize == 1) = true := by decide
/-- V6.8: bw is 2. -/
theorem test_filtSub_16 :
    after (step (filtering 0 16 2 2 16 0 [1, 0x12, 0x34, 1, 1, 2, 1, 1, 1, 1]))
      (fun t => shows t .out [0x12, 0x34, 0x13, 0x35] && t.engine.row == 1) = true := by decide

/-! ### The compositor (section 9) -/

/-- V9.1 -/
theorem test_blendSource :
    after (step (compositing .paint 0 0 2 2 0 0 [0, 1, 2, 0]))
      (fun t => shows t .canvas [0xFF, 0, 0, 0xFF, 0, 0, 0xFF, 0x80, 0, 0xFF, 0, 0, 0xFF, 0, 0, 0xFF] && t.status.done &&
        t.regs.prevDispose == 0 && t.regs.prevW == 2 && t.regs.prevH == 2) = true := by decide
/-- V9.4: alpha is blended too. -/
theorem test_blendOver :
    after (step (compositing .paint 0 0 2 2 0 1 [0, 1, 2, 0]))
      (fun t => shows t .canvas [0xFF, 0, 0, 0xFF, 8, 8, 0x88, 0x48, 0x11, 0x11, 0x11, 0x11, 0xFF, 0, 0, 0xFF]) = true := by decide
/-- V9.2's second frame, step 1: the first frame's rectangle is cleared. -/
theorem test_disposeBackground :
    after (exec (.disposeBackground .restore) ((compositing .disposeRestore 1 1 1 1 0 0 [1]) |> fun s =>
      s.setRegs { s.regs with prevDispose := 1, prevW := 1, prevH := 1 }))
      (fun t => shows t .canvas [0, 0, 0, 0, 0x11, 0x11, 0x11, 0x11, 0x11]) = true := by decide
/-- V9.3's second frame, step 1, with other bytes in SNAP. -/
theorem test_disposePrevious_restore :
    after (exec (.disposePrevious .restore) ((compositing .disposeRestore 0 1 1 1 0 0 [2]) |> fun s =>
      (s.setMem .snap (bytes [1, 2, 3, 4, 5, 6, 7, 8])).setRegs { s.regs with prevDispose := 2, prevW := 2, prevH := 1 }))
      (fun t => shows t .canvas [1, 2, 3, 4, 5, 6, 7, 8, 0x11]) = true := by decide
/-- R227 -/
theorem test_disposePrevious_snap :
    after (exec (.disposePrevious .snap) ((compositing .disposeSnap 1 1 1 1 2 0 [2]) |> fun s =>
      s.setMem .canvas (bytes [0, 0, 0, 0, 0, 0, 0, 0, 0, 0, 0, 0, 9, 8, 7, 6])))
      (fun t => shows t .snap [9, 8, 7, 6, 0] && t.engine.phase == .paint) = true := by decide
theorem test_disposeNone :
    after (exec (.disposeNone .restore) (compositing .disposeRestore 0 0 1 1 0 0 [2]))
      (fun t => shows t .canvas (List.replicate 16 0x11) && t.engine.phase == .disposeSnap) = true := by decide
/-- V9.10 and V9.11. -/
theorem test_compositor_codes :
    (raised (exec .blendModeReserved (compositing .blendMode 0 0 2 2 3 0 [])) 8 0x0902 &&
     raised (exec (.disposeInvalid .check 3) (compositing .disposeCheck 0 0 2 2 3 2 [])) 8 0x0903 &&
     raised (exec (.blendInvalid .check 2) (compositing .blendCheck 0 0 0 2 0 2 [])) 8 0x0904) = true := by decide
/-- V9.13, V9.15, V9.16 and, with the small canvas, V9.14. -/
theorem test_compositor_geometry :
    (raised (exec (.blendSource .check) (compositing .blendCheck 0 0 0 2 0 0 [])) 8 0x0A03 &&
     raised (exec (.blendSource .check) (compositing .blendCheck 1 0 2 2 0 0 [])) 8 0x0906 &&
     raised (exec (.blendSource .check) (compositing .blendCheck 0xFFFFFFFF 0 2 2 0 0 [])) 8 0x0906 &&
     raised (exec (.blendOver .check) ((compositing .blendCheck 0 0 2 2 0 1 []) |> fun s =>
       s.setRegs { s.regs with canvasW := 2000 })) 8 0x0905) = true := by decide
theorem test_blendMode :
    after (exec .blendModePerTerm (compositing .blendMode 0 0 2 2 0 0 []))
      (fun t => t.engine.mode == .perTerm && t.engine.phase == .disposeCheck) = true := by decide
/-- Rows of 9.1: (s, d, a) = (128, 255, 128), (200, 100, 254) and (254, 1, 129). -/
theorem test_blend_arithmetic :
    [BlendMode.singleDiv, .perTerm, .refTrunc].map (fun m => blendChannel m 128 128 255) = [191, 191, 255] ∧
    [BlendMode.singleDiv, .perTerm, .refTrunc].map (fun m => blendChannel m 200 254 100) = [199, 199, 100] ∧
    [BlendMode.singleDiv, .perTerm, .refTrunc].map (fun m => blendChannel m 1 127 1) = [1, 0, 1] := by decide
/-- The sub-byte example of 9.2: OUT[0] = 0x63 with 2-bit indices is 1, 2, 0. -/
theorem test_frameIndex : (List.range 3).map (fun px => frameIndex (bytes [0x63]) 3 2 px 0) = [1, 2, 0] := by decide

/-! ### The host's side -/

/-- One host access from a state with no command running. -/
def accessed (s : State) (op : BusOp) : Host.Outcome State Fault Refusal := step (s.setBus [{ after := 0, op := op }])

/-- R76: a 4-byte write to PAL is little-endian. -/
theorem test_bus_write :
    after (accessed quiet (.write .b4 0x80001004 0x04030201)) (fun t => shows t .pal [0, 0, 0, 0, 1, 2, 3, 4, 0]) = true := by
  decide
/-- R22: STATUS in the state V10.3 ends in reads 0x84. -/
theorem test_bus_status : after (accessed failed (rd32 small .status)) (fun t => t.rdata == 0x84) = true := by decide
/-- R311, V10.5: soft reset clears the sticky error. -/
theorem test_bus_srst :
    after (accessed failed (srst small)) (fun t => t.status == Status.reset && t.regs == Regs.reset) = true := by decide
/-- R250: `WR32 CMD, 0x12` starts INFLATE_RAW. -/
theorem test_bus_cmd :
    after (accessed quiet (wr32 small .cmd 0x12)) (fun t => t.regs.op == 2 && t.status.busy && t.bus == []) = true := by decide
/-- R74: an offset between the windows. -/
theorem test_bus_unmapped :
    (match accessed quiet (.read .b4 0x80000200) with | .refused r => r == .unmapped | _ => false) = true := by decide
/-- R72: TCL's entry 1 in the window, after V8.1. -/
theorem test_bus_table :
    after (accessed ((quiet.setRegs { Regs.reset with tblSel := 2 }).setTables
      { Tables.powerOn with tcl := { entries := [1, 5] ++ List.replicate 36 0, n := 4 } }) (rd32Tbl small 4))
      (fun t => t.rdata == 5) = true := by decide
/-- R240: 0x0002_0003 is 1.5 s and a denominator of 0 is 0.1 s. -/
theorem test_displaySeconds : displaySeconds 3 2 = 3 / 2 ∧ displaySeconds 5 0 = 1 / 10 := by
  constructor <;> norm_num [displaySeconds]
/-- The table question's states run the word as the first step: a command, a literal's fixed code, a format. -/
theorem test_withFetchWord :
    (after (step (State.reset.withFetchWord 32 7)) (fun t => t.regs.op == 7 && t.status.done) &&
     after (step (State.reset.withFetchWord 16 0x0803)) (fun t => t.engine.bpp == 8 && t.engine.phase == .filt) &&
     after (step (State.reset.withFetchWord 8 0x31)) (fun t => shows t .out [1] && t.engine.pos == 1)) = true := by
  decide +kernel

/-! ### The stream notation (R128) -/

/-- V4.2.2, V4.2.3, V4.1.9 and V7.2. -/
theorem test_assemble :
    assemble [.block true 1, .lit 0x61, .lit 0x62, .backref 4 2, .eob] = [0x4B, 0x4C, 0x02, 0x41, 0x00] ∧
    assemble [.block true 1, .lit 0x7A, .backref 258 1, .eob] = [0xAB, 0x1A, 0x05, 0x00] ∧
    assemble [.block false 1, .lit 0x5A, .eob, .block true 0, .stored [0x51]] =
      [0x8A, 0x02, 0x04, 0x01, 0x00, 0xFE, 0xFF, 0x51] ∧
    assemble [.zhdr 0x78 0x01, .block true 1, .lit 0, .lit 0, .lit 0x80, .backref 3 3, .eob] =
      [0x78, 0x01, 0x63, 0x60, 0x68, 0x00, 0x22, 0x00] := by decide +kernel

/-! ### Witnesses: for each obligation with hypotheses, a concrete state and operands that meet all of them -/

/-- A tested outcome is a next state. -/
theorem next_of_after {o : Host.Outcome State Fault Refusal} {f : State → Bool} (h : after o f = true) :
    ∃ t, o = .next t ∧ f t = true := by
  cases o with
  | next t => exact ⟨t, rfl, h⟩
  | fault _ => simp [after] at h
  | refused _ => simp [after] at h

theorem witness_EveryInstructionDecodesFromItsWord :
    (Instr.lit 255).wf = true ∧ encodeIn .fixedLL9 (.lit 255) = some 0x1FF := by decide

theorem witness_EveryDecodedWordIsTheEncodingOfItsInstruction : decode .cmd 0xFFFFFFFF = .ok (.cmdReserved 15) := by decide

theorem witness_DecoderAgreesWithTheOpcodeTable :
    (∃ r ∈ opcodeRows, r.covers 0xFFFFFFFF = true) ∧
    (decode .color 0x1006 = .ok .fmtRgba16 ∧ Format.color ∉ [Format.dispose .restore, .dispose .snap, .blend .paint]) ∧
    (∃ r ∈ opcodeRows, ∃ r' ∈ opcodeRows, r.fmt = r'.fmt ∧ r.covers 255 = true ∧ r'.covers 255 = true) := by decide

theorem witness_CanonicalCodesAreConsecutivePerLength :
    (∀ l ∈ [2, 1, 3, 15], l ≤ 15) ∧ 3 < [2, 1, 3, 15].length ∧ [2, 1, 3, 15].getD 3 0 ≠ 0 := by decide

theorem witness_AcceptedTablesDecodeEverySymbol :
    (∃ T b, buildTable [2, 1, 3, 3] = .ok (T, b)) ∧ (∀ l ∈ [2, 1, 3, 3], l ≤ 15) ∧ 3 < [2, 1, 3, 3].length ∧
    [2, 1, 3, 3].getD 3 0 ≠ 0 ∧ [2, 1, 3, 3].getD 3 0 ≤ 3 ∧
    CodeAt (fun _ => 1) 0 ([2, 1, 3, 3].getD 3 0) ((Build.start [2, 1, 3, 3]).code.getD 3 0) ∧
    (∀ k : Nat, (fun _ => 1) k ≤ 1) := by
  refine ⟨⟨_, _, rfl⟩, by decide, by decide, by decide, by decide, by unfold CodeAt; decide, fun _ => Nat.le_refl 1⟩

theorem witness_EmptyCodesDecodeSymbolZero : 1 ≤ 1 ∧ ∀ k : Nat, (fun _ => 1) k ≤ 1 := ⟨by decide, fun _ => Nat.le_refl 1⟩

theorem witness_FixedCodesDecodeTheirSymbols :
    (287 < 288 ∧ (fixedCode 287).1 ≤ 8 ∧
      CodeAt (fun k => [1, 1, 0, 0, 0, 1, 1, 1].getD k 0) 0 (fixedCode 287).1 (fixedCode 287).2) ∧
    (144 < 288 ∧ CodeAt (fun k => [1, 1, 0, 0, 1, 0, 0, 0, 0].getD k 0) 0 (fixedCode 144).1 (fixedCode 144).2) ∧
    CodeAt (fun _ => 1) 0 5 31 := by
  unfold CodeAt
  decide

theorem witness_BlockHeadersAreThreeBits :
    (let s := inflating [7] [] 5 0 .hdr; s.engine.phase = .hdr ∧ s.engine.cur + 3 ≤ 8 * s.engine.inlen) ∧
    (let s := inflating [7] [] 6 0 .hdr; s.engine.phase = .hdr ∧ ¬ s.engine.cur + 3 ≤ 8 * s.engine.inlen) ∧
    (∀ bfinal : Bool, ∀ btype < 4, let h := bfinal.toNat + 2 * btype
     h < 8 ∧ h % 2 = bfinal.toNat ∧ h / 2 % 4 = btype) := by decide

/-- A walk gives the symbol 0 after one bit of an empty table, and 0x0601 with no input left. -/
theorem witness_EachPhaseReadsItsOwnCode :
    (∀ l ∈ [[0], []], ∀ p ∈ [Phase.codeLens, .syms, .dist], (inflating l [] 0 0 p).engine.phase = p) ∧
    walkTable (inflating [0] [] 0 0 .codeLens).streamBit (List.replicate 38 0) 19 8 0 0 = .ok (0, 1) ∧
    walkTable (inflating [0] [] 0 0 .syms).streamBit fll 288 8 0 0 = .ok (256, 7) ∧
    walkTable (inflating [0] [] 0 0 .dist).streamBit fd 32 8 0 0 = .ok (0, 5) ∧
    walkTable (inflating [] [] 0 0 .syms).streamBit fll 288 0 0 0 = .error (malformed 0x0601) ∧
    (∀ p ∈ [Phase.format, .zlibFlg, .filt, .blendMode, .disposeCheck, .blendCheck, .disposeRestore, .disposeSnap, .paint,
      .tblSel], (quiet.goto p).engine.phase = p) := by decide +kernel

/-! States that meet the invariant. -/

theorem inv_quiet : quiet.Inv :=
  ⟨by decide, fun id => by cases id <;> decide, fun id => by cases id <;> decide +kernel, by decide, by decide, by decide⟩

/-- DEFILTER at the last row of V6.2. -/
def lastRow : State := filtering 0 8 3 2 8 1 [0x0A, 0x1E, 0x3C, 0x1E, 1, 0xFA, 0x0A, 0x0A]

theorem inv_lastRow : lastRow.Inv :=
  ⟨by decide, fun id => by cases id <;> decide, fun id => by cases id <;> decide +kernel, by decide, by decide, by decide⟩

theorem inv_failed : failed.Inv :=
  ⟨by decide, fun id => by cases id <;> decide, fun id => by cases id <;> decide +kernel, by decide, by decide, by decide⟩

/-- V9.1's block and V9.15's, before the command. -/
theorem inv_beforeComposite :
    (beforeComposite 0 0 2 2 2 1 [0, 1, 2, 0]).Inv ∧ (beforeComposite 1 0 2 2 0 0 [0, 1, 2, 0]).Inv :=
  ⟨⟨by decide, fun id => by cases id <;> decide, fun id => by cases id <;> decide +kernel, by decide, by decide, by decide⟩,
   ⟨by decide, fun id => by cases id <;> decide, fun id => by cases id <;> decide +kernel, by decide, by decide, by decide⟩⟩

/-- V4.1.1's stream, before the command. -/
def storedStream : State := payload [1, 3, 0, 0xFC, 0xFF, 0x41, 0x42, 0x43] 3

theorem inv_storedStream : storedStream.Inv :=
  ⟨by decide, fun id => by cases id <;> decide, fun id => by cases id <;> decide +kernel, by decide, by decide, by decide⟩

theorem witness_EveryStepKeepsTheInvariant : lastRow.Inv ∧ ∃ t, step lastRow = .next t :=
  ⟨inv_lastRow, (next_of_after (o := step lastRow) (f := fun t => t.status.done) (by decide)).imp fun _ h => h.1⟩

theorem witness_NoStepFaults : lastRow.Inv ∧ lastRow.bus = [] := ⟨inv_lastRow, rfl⟩

theorem witness_EveryCommandTerminates : lastRow.Inv ∧ lastRow.status.busy = true ∧ lastRow.bus = [] :=
  ⟨inv_lastRow, rfl, rfl⟩

/-- One witness for each clause: DEFILTER, COMPOSITE with a pixel outside its rectangles, BUILD_TABLE of TD. -/
theorem witness_EngineWritesOnlyItsFootprint :
    (lastRow.inBounds = true ∧ lastRow.runningOp = 3 ∧ lastRow.outFootprint ≤ 8 ∧ inflates lastRow.runningOp = false ∧
      ∃ t, engineStep lastRow = .next t ∧ (!t.status.error) = true) ∧
    (let s := compositing .paint 0 0 1 1 0 0 [0]
     s.inBounds = true ∧ s.runningOp = 5 ∧ 1 < s.regs.canvasW.toNat ∧ inFrame s 1 1 = false ∧ inPrev s 1 1 = false ∧
      s.regs.dispose ≠ 2 ∧ defilters s.runningOp = false ∧ ∃ t, engineStep s = .next t ∧ t.status.done = true) ∧
    (let s := building 1 2 [1, 1]
     s.inBounds = true ∧ s.runningOp = 6 ∧ s.regs.tblSel.toNat ≠ 0 ∧
      ∃ t, engineStep s = .next t ∧ t.status.done = true) :=
  ⟨⟨by decide, by decide, by decide, by decide, next_of_after (by decide)⟩,
   ⟨by decide, by decide, by decide, by decide, by decide, by decide, by decide, next_of_after (by decide)⟩,
   ⟨by decide, by decide, by decide, next_of_after (by decide)⟩⟩

/-- One witness at each of the four points. -/
theorem witness_InflateElementsOnlyAdvance :
    ∀ s ∈ [inflating [3, 0] [] 0 0 .hdr, lengthsAt [0] 257 1 [], inflating [0x4B, 0x4C] [] 3 1 .syms,
        (inflating [0, 0] [0x41] 0 4 .dist) |> fun s => s.setEngine { s.engine with length := 3 }],
      s.inBounds = true ∧ s.engine.phase ∈ [Phase.hdr, .codeLens, .syms, .dist] ∧ s.status.error = false ∧
      after (engineStep s) (fun t => !t.status.error) = true := by decide +kernel

/-- Both outcomes: the step that stays, and the host's soft reset. -/
theorem witness_TheErrorStateIsAbsorbing :
    failed.Inv ∧ failed.status.error = true ∧ (∃ t, step failed = .next t) ∧
    (let s := failed.setBus [{ after := 0, op := srst small }]
     s.Inv ∧ s.status.error = true ∧ ∃ t, step s = .next t ∧ (t.status == Status.reset) = true) :=
  ⟨inv_failed, rfl, ⟨_, rfl⟩,
   ⟨by decide, fun id => by cases id <;> decide, fun id => by cases id <;> decide +kernel, by decide, by decide, by decide⟩, rfl,
   next_of_after (by decide)⟩

/-- A word that decodes, a word that is rejected, and a word that is missing. -/
theorem witness_StepRunsTheDecodedElement :
    (lastRow.status.busy = true ∧ lastRow.inBounds = true ∧ lastRow.bus = [] ∧
      ∃ w t, fetch lastRow = .ok (.filterType, w, t) ∧ decode .filterType w = .ok .filtSub) ∧
    (let s := (filtering 2 4 2 2 0 0 []).goto .format
     s.status.busy = true ∧ s.inBounds = true ∧ s.bus = [] ∧
      ∃ w t, fetch s = .ok (.color, w, t) ∧ decode .color w = .error .unmatchedFormat ∧
        rejectError .unmatchedFormat = some (unformat 0x0B01)) ∧
    (let s := inflating [] [] 0 0 .hdr
     s.status.busy = true ∧ s.inBounds = true ∧ s.bus = [] ∧ fetch s = .error (malformed 0x0201)) :=
  ⟨⟨by decide, by decide, rfl, 1, lastRow, rfl, by decide⟩,
   ⟨by decide, by decide, rfl, 0x0402, _, rfl, by decide, rfl⟩, by decide, by decide, rfl, rfl⟩

theorem witness_StepServesTheHostInOrder :
    (quiet.status.busy = false ∧ quiet.bus = []) ∧
    (let s := quiet.setBus [{ after := 3, op := .write .b4 (small.base + 4) 0x12 }]
     s.status.busy = false ∧ decode .cmd (0x12 : Word).toNat = .ok .inflateRaw) ∧
    (∀ r ∈ [BusReq.mk 1 (rd32 small .status), ⟨0, .wait⟩, ⟨0, srst small⟩], (lastRow.setBus [r]).status.busy = true) ∧
    srst small ≠ .wait := by decide

/-! The host's side. -/

theorem witness_IdAlwaysReadsItsConstant : quiet.status.busy = false := by decide

theorem witness_BppIsDerivedFromColor :
    (let s := filtering 6 16 1 1 0 0 []
     (Instr.fmtRgba16, 6, 16, 64) ∈ formats ∧ s.regs.colorType.toNat = 6 ∧ s.regs.bitDepth.toNat = 16) ∧
    (∀ f ∈ formats, ¬ (quiet.regs.colorType.toNat = f.2.1 ∧ quiet.regs.bitDepth.toNat = f.2.2.1)) := by decide

theorem witness_RegisterWritesStoreTheWritableBits :
    quiet.status.busy = false ∧ Reg.trnsLen ≠ .cmd ∧ Reg.ctrl ≠ .cmd ∧ (6 : Word).getLsbD 0 = false := by decide

/-- Every window, at its last aligned word. -/
theorem witness_MemoryWindowsAreLittleEndian :
    small.wf ∧ quiet.params = small ∧ quiet.status.busy = false ∧
    ∀ x ∈ windows small, (x.2.2 - 4) % Width.b4.bytes = 0 ∧ x.2.2 - 4 + Width.b4.bytes ≤ x.2.2 := by decide

/-- Each selection, at the last word of the window. -/
theorem witness_TheTableWindowShowsTheSelectedRam :
    (∀ id : TableId, (quiet.tables.get id).entries.length = 2 * id.nmax) ∧ 575 < 576 ∧
    ∀ k < 4, let s := quiet.setRegs { Regs.reset with tblSel := BitVec.ofNat 2 k }
      s.status.busy = false ∧ s.regs.tblSel.toNat = k := by
  refine ⟨fun id => by cases id <;> decide +kernel, by decide, by decide⟩

theorem witness_HostReadsHaveNoSideEffect :
    quiet.status.busy = false ∧ (Reg.tblN, 9, 23, 0) ∈ registerFields quiet ∧
    ∃ t, hostAccess (rd32 small .bpp) quiet = .next t := ⟨rfl, by simp [registerFields], _, rfl⟩

/-- A 32-bit read of another register and of a misaligned offset, a narrow read of ID, a 32-bit write into PAL. -/
theorem witness_BusyAccessesAreRestricted :
    lastRow.status.busy = true ∧ (6 : Word).getLsbD 0 = false ∧ (7 : Word).getLsbD 0 = true ∧
    (busOffset small 0x80000004 = 4 ∧ 4 ∉ [0x000, 0x008, 0x00C]) ∧
    (busOffset small 0x80000001 = 1 ∧ 1 ∉ [0x000, 0x008, 0x00C]) ∧ Width.b1 ≠ .b4 ∧
    (busOffset small 0x80001000 = 0x1000 ∧ 0x1000 ∉ [0x004, 0x010]) := by decide

/-- An offset between windows; a narrow register access; a word at the last byte of IN; the last register offset. -/
theorem witness_UnbackedAndMisalignedAccessesAreRefused :
    small.wf ∧ quiet.status.busy = false ∧ ¬ Backed small (busOffset small 0x80000100) ∧
    (busOffset small 0x80000000 < 0x100 ∧ Width.b1 ≠ .b4) ∧ (busOffset small 0x80002002 % 4 ≠ 0) ∧
    ((MemId.inp, 0x01000000, 32) ∈ windows small ∧ 0x01000000 ≤ busOffset small 0x8100001F ∧
      busOffset small 0x8100001F < 0x01000000 + 32 ∧ busOffset small 0x8100001F % Width.b4.bytes ≠ 0) ∧
    (0x070 ≤ busOffset small 0x800000FC ∧ busOffset small 0x800000FC < 0x100 ∧ busOffset small 0x800000FC % 4 = 0) := by
  refine ⟨by decide, by decide, ?_, by decide, by decide, by decide, by decide⟩
  have h : busOffset small 0x80000100 = 0x100 := by decide
  rw [h]
  rintro (h | h | ⟨id, first, cap, hm, hlo, hhi⟩)
  · omega
  · omega
  · simp only [windows, small, List.mem_cons, Prod.mk.injEq, List.not_mem_nil, or_false] at hm
    omega

/-- Idle, and one abandoned command of each kind. -/
theorem witness_SoftResetRestoresTheRegisters :
    (1 : Word).getLsbD 0 = true ∧ quiet.status.busy = false ∧ (lastRow.runningOp = 3 ∧ lastRow.runningOp ≠ 5) ∧
    (let s := compositing .paint 0 0 1 1 0 0 [0]
     s.runningOp = 5 ∧ (1 < s.regs.canvasW.toNat ∧ 1 < s.regs.canvasH.toNat ∧ 3 < 4) ∧
       inFrame s 1 1 = false ∧ inPrev s 1 1 = false ∧
       4 * s.regs.frameW.toNat * s.regs.frameH.toNat ≤ 4 * 4 * 4) ∧
    (let s := building 1 2 [1, 1]; s.runningOp = 6 ∧ s.regs.tblSel.toNat ≠ 0) := by decide

/-! Commands. -/

theorem witness_NopOnlyStoresItsOp : quiet.status.busy = false ∧ lastRow.status.busy = true := by decide

theorem witness_CommandsStart :
    storedStream.idle ∧ storedStream.regs.inBase.toNat + storedStream.regs.inLen.toNat ≤ storedStream.params.inCap ∧
    storedStream.regs.outSize.toNat ≤ storedStream.params.outCap := by decide

/-- The payload one byte past IN; the buffer one byte past OUT. -/
theorem witness_InflateCommandsCheckTheirBuffers :
    (let s := quiet.setRegs { Regs.reset with inBase := 32, inLen := 1 }
     s.idle ∧ s.params.inCap < s.regs.inBase.toNat + s.regs.inLen.toNat) ∧
    (let s := payload [3, 0] 33
     s.idle ∧ s.regs.inBase.toNat + s.regs.inLen.toNat ≤ s.params.inCap ∧ 1 ≠ 4 ∧ s.params.outCap < s.regs.outSize.toNat) := by
  decide

theorem witness_CommandWordsAreIgnoredInErrorAndBusy :
    (Instr.cmdReserved 15, 15) ∈ commandWords ∧ failed.status.busy = false ∧ failed.status.error = true ∧
    lastRow.status.busy = true := by decide

theorem witness_CresetClearsThePreviousFrame : quiet.idle := by decide

theorem witness_ReservedCommandsRaise : quiet.idle ∧ quiet.engine.phase = .idle ∧ 8 ≤ 15 ∧ 15 ≤ 15 := by decide

/-- An unmatched pair at its check; a matched one for each command, at and past each bound. -/
theorem witness_FormatsAreMatchedOrRejected :
    (let s := (filtering 2 4 2 2 0 0 []).goto .format
     s.inBounds = true ∧ s.engine.phase = .format ∧ formatBpp s.regs.colorType.toNat s.regs.bitDepth.toNat = none) ∧
    (Instr.fmtGray8, 0, 8, 8) ∈ formats ∧ (Instr.fmtIndexed8, 3, 8, 8) ∈ formats ∧
    (∀ op ∈ [(3 : BitVec 4), 4],
      (let s := (filtering 0 8 0 2 0 0 []) |> fun s => s.setRegs { s.regs with op := op }
       s.runningOp = op.toNat ∧ s.regs.frameW.toNat = 0) ∧
      (let s := (filtering 0 8 32 1 0 0 []) |> fun s => s.setRegs { s.regs with op := op }
       s.runningOp = op.toNat ∧ s.params.outCap < (ceilDiv (s.regs.frameW.toNat * 8) 8 + 1) * s.regs.frameH.toNat) ∧
      (let s := (filtering 0 8 31 1 0 0 []) |> fun s => s.setRegs { s.regs with op := op }
       s.runningOp = op.toNat ∧ (ceilDiv (s.regs.frameW.toNat * 8) 8 + 1) * s.regs.frameH.toNat ≤ s.params.outCap)) ∧
    (compositing .format 0 0 1 1 0 0 []).runningOp = 5 := by decide

/-- V5.12, V5.5, V5.7, V5.17 and V5.2 at CMF; V5.8 and V5.2 at FLG. -/
theorem witness_ZlibHeadersAreChecked :
    (∀ s ∈ [header .zlibCmf 0x78 0x9C, header .zlibCmf 0x78 0x00, header .zlibCmf 0x88 0x1C, header .zlibCmf 0x79 0x18,
        (header .zlibCmf 0x78 0x9C) |> fun s => s.setRegs { s.regs with inLen := 1 }],
      s.inBounds = true ∧ s.engine.phase = .zlibCmf) ∧
    (0x78 * 256 + 0x00) % 31 ≠ 0 ∧ (0x88 * 256 + 0x1C) % 31 = 0 ∧ 7 < 0x88 / 16 ∧ (0x79 * 256 + 0x18) % 31 = 0 ∧
    0x79 % 16 ≠ 8 ∧ (0x78 * 256 + 0x9C) % 31 = 0 ∧ 0x78 % 16 = 8 ∧ 0x78 / 16 ≤ 7 ∧
    (∀ s ∈ [header .zlibFlg 0x78 0x20, header .zlibFlg 0x78 0x9C], s.inBounds = true ∧ s.engine.phase = .zlibFlg) ∧
    0x20 / 32 % 2 = 1 ∧ 0x9C / 32 % 2 = 0 := by decide

/-! Inflate. -/

/-- The byte of the payload as the statement reads it. -/
def payloadByte (s : State) (k : Nat) : Nat := (s.rd .inp (s.engine.inbase + k)).toNat

/-- V4.1.5, V4.1.4, V4.1.6, V4.1.7 and V4.1.1 after the header, each at its clause. -/
theorem witness_StoredBlocksCopyTheirBytes :
    (inflating [1, 3, 0] [] 3 8 .hdr).engine.inlen < 1 + 4 ∧
    (let s := inflating [1, 3, 0, 0xFB, 0xFF, 0x41, 0x42, 0x43] [] 3 8 .hdr
     (s.engine.cur + 7) / 8 = 1 ∧ 5 ≤ s.engine.inlen ∧
      payloadByte s 1 + 256 * payloadByte s 2 ≠ (payloadByte s 3 + 256 * payloadByte s 4) ^^^ 0xFFFF) ∧
    (let s := inflating [1, 3, 0, 0xFC, 0xFF, 0x41, 0x42] [] 3 8 .hdr
     payloadByte s 1 + 256 * payloadByte s 2 = (payloadByte s 3 + 256 * payloadByte s 4) ^^^ 0xFFFF ∧
      s.engine.inlen < 1 + 4 + 3) ∧
    (let s := inflating [1, 3, 0, 0xFC, 0xFF, 0x41, 0x42, 0x43] [] 3 2 .hdr
     1 + 4 + 3 ≤ s.engine.inlen ∧ s.engine.cap < s.engine.pos + 3) ∧
    (let s := inflating [1, 3, 0, 0xFC, 0xFF, 0x41, 0x42, 0x43] [] 3 3 .hdr
     1 + 4 + 3 ≤ s.engine.inlen ∧ s.engine.pos + 3 ≤ s.engine.cap ∧ s.runningOp ≠ 4) ∧
    (let s := (inflating [1, 3, 0, 0xFC, 0xFF, 0x41, 0x42, 0x43] [] 3 4 .hdr) |> fun s => s.setRegs { s.regs with op := 4 }
     1 + 4 + 3 ≤ s.engine.inlen ∧ s.engine.pos + 3 ≤ s.engine.cap ∧ s.runningOp = 4 ∧
      s.engine.pos + 3 ≠ s.engine.cap) := by decide

theorem witness_AStoredStreamYieldsItsBytes :
    storedStream.Inv ∧ storedStream.idle ∧ storedStream.bus = [] ∧
    (let data : List Byte := [0x41, 0x42, 0x43]
     let base := storedStream.regs.inBase.toNat
     data.length < 65536 ∧ base + storedStream.regs.inLen.toNat ≤ storedStream.params.inCap ∧
     5 + data.length ≤ storedStream.regs.inLen.toNat ∧ data.length ≤ storedStream.regs.outSize.toNat ∧
     storedStream.regs.outSize.toNat ≤ storedStream.params.outCap ∧ storedStream.rd .inp base = 1 ∧
     storedStream.rd .inp (base + 1) = BitVec.ofNat 8 data.length ∧
     storedStream.rd .inp (base + 2) = BitVec.ofNat 8 (data.length / 256) ∧
     storedStream.rd .inp (base + 3) = ~~~ BitVec.ofNat 8 data.length ∧
     storedStream.rd .inp (base + 4) = ~~~ BitVec.ofNat 8 (data.length / 256) ∧
     ∀ k < data.length, storedStream.rd .inp (base + 5 + k) = data.getD k 0) :=
  ⟨inv_storedStream, by decide, rfl, by decide⟩

/-- A header cut off, one with an oversubscribed code (V4.3.6), and one that builds (V4.3.1), after their three bits. -/
theorem witness_HuffmanBlockHeadersPrepareTheirTables :
    (let s := inflating [5, 0] [] 3 4 .hdr; 8 * s.engine.inlen < s.engine.cur + 14) ∧
    (let s := inflating [5, 0, 0x92, 0] [] 3 4 .hdr
     let n := s.bitsAt (s.engine.cur + 10) 4 + 4
     s.engine.cur + 14 + 3 * n ≤ 8 * s.engine.inlen ∧
      buildTable (codeLengthCode s (s.engine.cur + 14) n) = .error (malformed 0x0502)) ∧
    (let s := inflating [0x0D, 0xC1, 0x01, 0x0D, 0, 0, 0, 0x40, 0xB0, 0xAC] [] 3 4 .hdr
     let n := s.bitsAt (s.engine.cur + 10) 4 + 4
     s.engine.cur + 14 + 3 * n ≤ 8 * s.engine.inlen ∧
      (buildTable (codeLengthCode s (s.engine.cur + 14) n)).isOk = true) := by decide

/-- Each clause: symbol 16 first, a missing extra bit, an overrun by one, a symbol short of the end, builds that fail in
TLL and in TD, and builds that succeed. -/
theorem witness_CodeLengthSymbolsFillTheLengths :
    (lengthsAt [0] 257 1 []).engine.lens = [] ∧
    (let s := (lengthsAt [0] 257 1 [3]).atCur 7; s.engine.lens ≠ [] ∧ 8 * s.engine.inlen < s.engine.cur + 2) ∧
    (let s := lengthsAt [0] 2 1 [1]
     codeLengthsOf s .clRepeatPrev = some ([1, 1, 1], 2) ∧ s.engine.hlit + s.engine.hdist < 1 + 3) ∧
    (let s := lengthsAt [0] 2 1 [1]
     codeLengthsOf s (.clLen 5) = some ([5], 0) ∧ 1 + 1 < s.engine.hlit + s.engine.hdist) ∧
    (let s := lengthsAt [0] 3 1 [1, 1, 1]
     codeLengthsOf s (.clLen 1) = some ([1], 0) ∧ 3 + 1 = s.engine.hlit + s.engine.hdist ∧
      buildTable (llPart 3 [1, 1, 1, 1]) = .error (malformed 0x0502)) ∧
    (let s := lengthsAt [0] 1 3 [1, 1, 1]
     codeLengthsOf s (.clLen 1) = some ([1], 0) ∧ 3 + 1 = s.engine.hlit + s.engine.hdist ∧
      (buildTable (llPart 1 [1, 1, 1, 1])).isOk = true ∧
      buildTable (distPart 1 3 [1, 1, 1, 1]) = .error (malformed 0x0502)) ∧
    (buildTable (distPart 1 1 [1, 1])).isOk = true := by decide +kernel

theorem witness_LiteralsWriteOneByte :
    255 ≤ 255 ∧ (let s := inflating [0] [1, 2] 0 2 .syms; s.engine.cap ≤ s.engine.pos) ∧
    (let s := inflating [0] [1] 0 2 .syms; s.engine.pos < s.engine.cap) := by decide

/-- DECODE_FRAME one byte short, and full. -/
theorem witness_EndOfBlockReturnsToTheBlockLoop :
    ∀ cap ∈ [3, 2], let s := (inflating [0] [1, 2] 7 cap .syms) |> fun s =>
        (s.setRegs { s.regs with op := 4 }).setEngine { s.engine with bfinal := true }
      s.engine.bfinal = true ∧ s.runningOp = 4 ∧ (cap = 3 → s.engine.pos ≠ s.engine.cap) ∧
      (cap = 2 → s.engine.pos = s.engine.cap) := by decide

/-- Symbols 257 and 285 (no extra bits) and 284 with its five bits there, and with one missing. -/
theorem witness_LengthSymbolsGiveTheLength :
    lextra 257 = 0 ∧ lextra 285 = 0 ∧ 0 < lextra 284 ∧
    (let s := inflating [0] [1] 3 9 .syms; s.engine.cur + lextra 284 ≤ 8 * s.engine.inlen) ∧
    (let s := inflating [0] [1] 4 9 .syms; 8 * s.engine.inlen < s.engine.cur + lextra 284) := by decide

/-- A missing bit, a distance one beyond pos, a copy one beyond cap, and an exact fill. -/
theorem witness_DistanceSymbolsCopyBack :
    (let s := inflating [0] [1] 8 9 .dist; ¬ (dextra 4 = 0 ∨ s.engine.cur + dextra 4 ≤ 8 * s.engine.inlen)) ∧
    (let s := inflating [0] [1] 8 9 .dist; dextra 1 = 0 ∧ s.engine.pos < dbase 1 + s.bitsAt s.engine.cur (dextra 1)) ∧
    (∀ cap ∈ [3, 4], let s := (inflating [0] [1] 8 cap .dist) |> fun s => s.setEngine { s.engine with length := 3 }
      dbase 0 + s.bitsAt s.engine.cur (dextra 0) ≤ s.engine.pos ∧
      (cap = 3 → s.engine.cap < s.engine.pos + s.engine.length) ∧
      (cap = 4 → s.engine.pos + s.engine.length ≤ s.engine.cap)) := by decide

/-! Filters. -/

/-- A row that is not the last, the last, and one whose padding is compacted. -/
theorem witness_FilterTypesReconstructTheirRow :
    (Instr.filtPaeth, 4) ∈ filters ∧
    (∀ s ∈ [filtering 0 8 3 2 8 0 [], lastRow, filtering 0 1 3 2 1 1 []], s.regs.bpp? = some s.engine.bpp) ∧
    (filtering 0 8 3 2 8 0 []).engine.row + 1 < 2 ∧ 2 ≤ lastRow.engine.row + 1 := by decide

theorem witness_PaethPicksTheNearest : 255 ≤ 255 ∧ 0 ≤ 255 ∧ 128 ≤ 255 := by decide

/-- V6.2's image. -/
theorem witness_DefilterInvertsTheForwardFilters :
    let s := filtering 0 8 3 2 8 0 [1, 0x0A, 0x14, 0x1E, 1, 0xFA, 0x0A, 0x0A]
    let orig (y i : Nat) : Nat := ([[0x0A, 0x1E, 0x3C], [0xFA, 0x04, 0x0E]].getD y []).getD i 0
    s.status.busy = true ∧ s.bus = [] ∧ s.inBounds = true ∧ s.engine.phase = .filt ∧ s.engine.row = 0 ∧
    (∀ y < 2, 1 ≤ 4 ∧ (s.rd .out ((3 + 1) * y)).toNat = 1) ∧
    (∀ y < 2, ∀ i < 3, orig y i ≤ 255 ∧ (s.rd .out ((3 + 1) * y + 1 + i)).toNat =
      (orig y i + 256 - prediction 1 (if 1 ≤ i then orig y (i - 1) else 0) 0 0 % 256) % 256) := by decide

/-! The compositor. -/

/-- A failing check (V9.15), and a frame that passes them. -/
theorem witness_CompositeRaisesTheFirstFailingCheck :
    (let s := beforeComposite 1 0 2 2 0 0 [0, 1, 2, 0]
     s.Inv ∧ s.idle ∧ s.bus = [] ∧ (compositeChecks s).find? (fun x => x.1) = some (true, param 0x0906)) ∧
    (let s := beforeComposite 0 0 2 2 2 1 [0, 1, 2, 0]
     s.Inv ∧ s.idle ∧ s.bus = [] ∧ (compositeChecks s).find? (fun x => x.1) = none) :=
  ⟨⟨inv_beforeComposite.2, by decide, rfl, by decide⟩, inv_beforeComposite.1, by decide, rfl, by decide⟩

theorem witness_CompositeDisposesSnapshotsPaintsAndRecords :
    (let s := beforeComposite 0 0 2 2 2 1 [0, 1, 2, 0]
     s.Inv ∧ s.idle ∧ s.bus = [] ∧ (compositeChecks s).find? (fun x => x.1) = none ∧
      blendModeOf s.regs.blendMode = some .singleDiv ∧ s.regs.dispose = 2) ∧
    (beforeComposite 0 0 2 2 0 1 [0, 1, 2, 0]).regs.dispose ≠ 2 :=
  ⟨⟨inv_beforeComposite.1, by decide, rfl, by decide, rfl, by decide⟩, by decide⟩

/-- Pixels at the canvas's last corner and inside the snapshot. -/
theorem witness_DisposeCodesActOnTheirRectangles :
    (Instr.disposePrevious .restore, 2) ∈ [(Instr.disposeBackground .restore, 1), (.disposePrevious .restore, 2)] ∧
    onCanvas (compositing .disposeRestore 0 0 2 2 2 0 []) 1 1 3 := by unfold onCanvas; decide

/-- The check's failure (V9.15) and its success. -/
theorem witness_BlendCodesPaintTheFrame :
    ((compositeChecks (compositing .blendCheck 1 0 2 2 0 0 [])).drop 5).find? (fun x => x.1) = some (true, param 0x0906) ∧
    ((compositeChecks (compositing .blendCheck 0 0 2 2 0 0 [])).drop 5).find? (fun x => x.1) = none := by decide

theorem witness_BlendModesSelectTheirFormula : decode .blendMode 2 = .ok .blendModeRefTrunc := by decide

theorem witness_TheClampNeverActs : 255 ≤ 255 ∧ 0 ≤ 255 ∧ 255 ≤ 255 := by decide

theorem witness_BlendModeCornerCases : 0 < 254 ∧ 254 < 255 ∧ 255 ≤ 255 := by decide

/-! BUILD_TABLE. -/

/-- V8.5's and V8.4's counts, lengths one past IN, V8.7's length above 15, V8.8's build, and V8.1's. -/
theorem witness_BuildTableBuildsTheSelectedRam :
    (Instr.tblTcl, TableId.tcl, 19) ∈ [(Instr.tblTll, TableId.tll, 288), (.tblTd, .td, 32), (.tblTcl, .tcl, 19)] ∧
    ¬ (1 ≤ (building 2 20 []).regs.tblN.toNat ∧ (building 2 20 []).regs.tblN.toNat ≤ 19) ∧
    ¬ (1 ≤ (building 2 0 []).regs.tblN.toNat) ∧
    (let s := (building 2 4 []) |> fun s => s.setRegs { s.regs with inBase := 29 }
     s.params.inCap < s.regs.inBase.toNat + s.regs.tblN.toNat) ∧
    (let s := building 0 2 [0x10, 1]; ∃ l ∈ s.hostLens, 15 < l) ∧
    (let s := building 0 3 [1, 1, 1]
     (∀ l ∈ s.hostLens, l ≤ 15) ∧ buildTable s.hostLens = .error (malformed 0x0502)) ∧
    (let s := building 2 4 [2, 1, 3, 3]
     (∀ l ∈ s.hostLens, l ≤ 15) ∧ (buildTable s.hostLens).isOk = true) := by decide

end Sys2Proof.Tests
end

section
/-! PROOFS. The reset state meets the invariant: one lemma per part of it. -/

namespace Sys2Proof.Machine

/-! ### What power-on gives -/

/-- R8 holds of the capacities the model chooses (log 1). -/
theorem Params.wf_chosen : Params.chosen.wf := by decide

@[simp] theorem Mems.get_powerOn (id : MemId) : Mems.powerOn.get id = [] := by cases id <;> rfl

/-- R53 -/
@[simp] theorem Tables.length_entries_powerOn (id : TableId) :
    (Tables.powerOn.get id).entries.length = 2 * id.nmax := by
  cases id <;> exact List.length_replicate

theorem State.memsWf_of_powerOn {s : State} (h : s.mems = Mems.powerOn) : s.memsWf := by
  intro id
  rw [h]
  exact ⟨Mems.wf_powerOn id, by simp⟩

theorem State.tablesWf_of_powerOn {s : State} (h : s.tables = Tables.powerOn) : s.tablesWf := by
  intro id
  rw [h]
  exact Tables.length_entries_powerOn id

/-! ### What either reset gives (R22, R310): nothing runs, no error is set, the previous frame is NONE -/

theorem State.statusWf_of_reset {s : State} (hstatus : s.status = Status.reset) (hregs : s.regs = Regs.reset) :
    s.statusWf := by
  rw [State.statusWf, hstatus, hregs]
  decide

theorem State.prevWf_of_reset {s : State} (hregs : s.regs = Regs.reset) : s.prevWf := by
  rw [State.prevWf, hregs]
  decide

theorem State.engineWf_of_reset {s : State} (hstatus : s.status = Status.reset) (hengine : s.engine = Engine.reset) :
    s.engineWf := by
  have hbusy : s.status.busy = false := by rw [hstatus]; rfl
  have hphase : s.engine.phase = .idle := by rw [hengine]; rfl
  exact ⟨fun h => absurd h (by simp [hbusy]), fun _ => hphase⟩

/-- Settles O15, part by part: the chosen parameters, the contents at power-on, and the values at either reset. -/
theorem resetMeetsTheInvariant : Obligations.ResetMeetsTheInvariant where
  params := Params.wf_chosen
  mems := State.memsWf_of_powerOn rfl
  tables := State.tablesWf_of_powerOn rfl
  status := State.statusWf_of_reset rfl rfl
  prev := State.prevWf_of_reset rfl
  engine := State.engineWf_of_reset rfl rfl

end Sys2Proof.Machine
end

section
/-! PROOFS. The registers on the bus: where a register lies, what a write stores and leaves, and the derived BPP. -/

namespace Sys2Proof.Machine

open Sys2Proof.Claims

/-! ### Where a register lies (R22, R70) -/

theorem Reg.offset_lt (r : Reg) : r.offset < 0x100 := by cases r <;> decide

@[simp] theorem regAt_offset (r : Reg) : regAt r.offset = some r := by cases r <;> rfl

@[simp] theorem wordAccess_offset (r : Reg) : wordAccess .b4 r.offset = true := by cases r <;> rfl

/-- R70: the offset of a bus address is taken back from `P_BASE`, wherever that lies. -/
@[simp] theorem busOffset_offset (p : Params) (r : Reg) :
    busOffset p (p.base + BitVec.ofNat 32 r.offset) = r.offset := by
  have hlt := r.offset_lt
  rw [busOffset, add_sub_cancel_left, BitVec.toNat_ofNat, Nat.mod_eq_of_lt (by omega)]

@[simp] theorem locate_offset (p : Params) (r : Reg) : locate p r.offset = some (.reg r.offset) := if_pos r.offset_lt

/-- R22: with no command running, `RD32` of a register returns it. -/
theorem hostAccess_rd32_idle {s : State} (h : s.status.busy = false) (r : Reg) :
    hostAccess (rd32 s.params r) s = .next (s.setRdata (s.readReg r)) := by
  simp [hostAccess, rd32, idleRead, h]

/-- R22: with no command running, `WR32` of a register writes it. -/
theorem hostAccess_wr32_idle {s : State} (h : s.status.busy = false) (r : Reg) (v : Word) :
    hostAccess (wr32 s.params r v) s = writeReg r v s := by
  simp [hostAccess, wr32, idleWrite, h]

/-! ### What a register write stores (R22, R24 to R46) -/

/-- CMD and a soft reset apart, an idle write stores its value. -/
theorem writeReg_idle {s : State} {r : Reg} {v : Word} (h : s.status.busy = false) (hcmd : r ≠ .cmd)
    (hsrst : ¬ (r = .ctrl ∧ v.getLsbD 0 = true)) : writeReg r v s = .next (s.setRegs (s.regs.store v r)) := by
  cases r
  case cmd => exact absurd rfl hcmd
  case ctrl => simp_all [writeReg, writeCtrl]
  all_goals rfl

/-- Only the register written reads differently, the derived BPP apart: every other one reads fields the store does not
name. -/
theorem State.readReg_store_of_ne (s : State) (v : Word) {r r' : Reg} (hne : r' ≠ r) (hbpp : r' ≠ .bpp) :
    (s.setRegs (s.regs.store v r)).readReg r' = s.readReg r' := by
  cases r <;> cases r' <;> try contradiction
  all_goals rfl

/-- Where no bit is writable a store keeps the old word. -/
theorem store_writable_none {k : Nat} (v old : BitVec k) : old = (v &&& 0#k) ||| (old &&& ~~~ 0#k) := by simp

/-- Where every bit is writable a store gives the value. -/
theorem store_writable_all {k : Nat} (v old : BitVec k) :
    v = (v &&& BitVec.allOnes k) ||| (old &&& ~~~ BitVec.allOnes k) := by simp

/-- The word with the field `x` at bit `lo`, and 0 in its other bits. -/
def fieldAt (lo : Nat) {k : Nat} (x : BitVec k) : Word := x.setWidth 32 <<< lo

/-- Storing a value's field bits over a word that is 0 outside the field gives the value's field. -/
theorem fieldAt_store (lo : Nat) {k : Nat} (v : Word) (x : BitVec k) :
    fieldAt lo (v.extractLsb' lo k) =
      (v &&& fieldAt lo (BitVec.allOnes k)) ||| (fieldAt lo x &&& ~~~ fieldAt lo (BitVec.allOnes k)) := by
  ext i hi
  simp only [fieldAt]
  by_cases hlo : i < lo
  · simp [hlo]
  · by_cases hk : i - lo < k
    · simp [hlo, hk, Nat.add_sub_cancel' (Nat.le_of_not_lt hlo), BitVec.getLsbD_eq_getElem hi]
    · simp [hlo, hk, BitVec.getLsbD_of_ge x (i - lo) (Nat.le_of_not_lt hk)]

/-- Two fields packed by arithmetic are one field, the second in the high bits. -/
theorem ofNat_packed {m n : Nat} (lo : BitVec m) (hi : BitVec n) :
    BitVec.ofNat 32 (lo.toNat + 2 ^ m * hi.toNat) = fieldAt 0 (hi ++ lo) := by
  apply BitVec.eq_of_toNat_eq
  rw [fieldAt, BitVec.shiftLeft_zero, BitVec.toNat_setWidth, BitVec.toNat_ofNat, BitVec.toNat_append,
    ← Nat.shiftLeft_add_eq_or_of_lt lo.isLt, Nat.shiftLeft_eq, Nat.mul_comm, Nat.add_comm]

/-! A register with reserved or packed fields reads as one field. -/

theorem State.readReg_ctrl (s : State) : s.readReg .ctrl = fieldAt 1 s.regs.blendMode := by
  apply BitVec.eq_of_toNat_eq
  simp [readReg, fieldAt, Nat.shiftLeft_eq, Nat.mul_comm]

theorem State.readReg_color (s : State) : s.readReg .color = fieldAt 0 (s.regs.bitDepth ++ s.regs.colorType) :=
  ofNat_packed s.regs.colorType s.regs.bitDepth

theorem State.readReg_frameOps (s : State) : s.readReg .frameOps = fieldAt 0 (s.regs.blend ++ s.regs.dispose) :=
  ofNat_packed s.regs.dispose s.regs.blend

theorem State.readReg_frameDelay (s : State) : s.readReg .frameDelay = fieldAt 0 (s.regs.delayDen ++ s.regs.delayNum) :=
  ofNat_packed s.regs.delayNum s.regs.delayDen

theorem State.readReg_trnsLen (s : State) : s.readReg .trnsLen = fieldAt 0 s.regs.trnsLen :=
  (BitVec.shiftLeft_zero _).symm

theorem State.readReg_tblSel (s : State) : s.readReg .tblSel = fieldAt 0 s.regs.tblSel :=
  (BitVec.shiftLeft_zero _).symm

theorem State.readReg_tblN (s : State) : s.readReg .tblN = fieldAt 0 s.regs.tblN :=
  (BitVec.shiftLeft_zero _).symm

/-- Two neighbouring fields of a value are stored as one. -/
theorem fieldAt_store_pair {k : Nat} (v : Word) (lo hi : BitVec k) :
    fieldAt 0 (v.extractLsb' k k ++ v.extractLsb' 0 k) =
      (v &&& fieldAt 0 (BitVec.allOnes (k + k))) |||
        (fieldAt 0 (hi ++ lo) &&& ~~~ fieldAt 0 (BitVec.allOnes (k + k))) := by
  rw [BitVec.extractLsb'_append_extractLsb'_eq_extractLsb' (by omega)]
  exact fieldAt_store 0 v (hi ++ lo)

/-- R22: a store puts the value's writable bits in its register and keeps the others. -/
theorem State.readReg_store_self (s : State) (v : Word) {r : Reg} (hcmd : r ≠ .cmd) :
    (s.setRegs (s.regs.store v r)).readReg r = (v &&& writable r) ||| (s.readReg r &&& ~~~ writable r) := by
  cases r
  case cmd => exact absurd rfl hcmd
  case ctrl => rw [readReg_ctrl, readReg_ctrl]; exact fieldAt_store 1 v s.regs.blendMode
  case color => rw [readReg_color, readReg_color]; exact fieldAt_store_pair v s.regs.colorType s.regs.bitDepth
  case frameOps => rw [readReg_frameOps, readReg_frameOps]; exact fieldAt_store_pair v s.regs.dispose s.regs.blend
  case frameDelay =>
    rw [readReg_frameDelay, readReg_frameDelay]
    exact fieldAt_store_pair v s.regs.delayNum s.regs.delayDen
  case trnsLen => rw [readReg_trnsLen, readReg_trnsLen]; exact fieldAt_store 0 v s.regs.trnsLen
  case tblSel => rw [readReg_tblSel, readReg_tblSel]; exact fieldAt_store 0 v s.regs.tblSel
  case tblN => rw [readReg_tblN, readReg_tblN]; exact fieldAt_store 0 v s.regs.tblN
  case id | status | errSite | outPos | bitPos | bpp | prevOps | prevX | prevY | prevW | prevH =>
    exact store_writable_none v _
  all_goals exact store_writable_all v _

/-- Settles O26: the write lands as a store of its register, which is the only one whose fields the store names. -/
theorem registerWritesStoreTheWritableBits : Obligations.RegisterWritesStoreTheWritableBits := by
  intro s r v hidle hcmd hsrst
  refine ⟨s.setRegs (s.regs.store v r), ?_, s.readReg_store_self v hcmd,
    fun r' hne hbpp => s.readReg_store_of_ne v hne hbpp, rfl, rfl, rfl, rfl, rfl, rfl, rfl⟩
  rw [hostAccess_wr32_idle hidle, writeReg_idle hidle hcmd hsrst]

/-! ### The register values the rules fix -/

/-- Settles O14, register by register. -/
theorem resetGivesTheTableValues : Obligations.ResetGivesTheTableValues :=
  ⟨fun r => by cases r <;> rfl, rfl, rfl, rfl, rfl⟩

/-- Settles O24: ID is stored nowhere, so no write can change what it reads as. -/
theorem idAlwaysReadsItsConstant : Obligations.IdAlwaysReadsItsConstant :=
  fun _ => ⟨rfl, fun hidle => hostAccess_rd32_idle hidle .id⟩

/-- R200: the format table as the statements list it is the table the machine matches COLOR with. -/
theorem formatBpp_eq_some_iff {ct d bpp : Nat} :
    formatBpp ct d = some bpp ↔ (ct, d, bpp) ∈ formats.map Prod.snd := by
  constructor
  · intro h
    unfold formatBpp at h
    split at h <;> cases h <;> decide
  · have hall : ∀ f ∈ formats.map Prod.snd, formatBpp f.1 f.2.1 = some f.2.2 := by decide
    exact hall (ct, d, bpp)

/-- No format needs more than 64 bits per pixel, so BPP holds the value as it is. -/
theorem formatBpp_le {ct d bpp : Nat} (h : formatBpp ct d = some bpp) : bpp ≤ 64 := by
  have hall : ∀ f ∈ formats.map Prod.snd, f.2.2 ≤ 64 := by decide
  exact hall (ct, d, bpp) (formatBpp_eq_some_iff.mp h)

theorem State.readReg_bpp_of_matched {s : State} {bpp : Nat} (h : s.regs.bpp? = some bpp) :
    (s.readReg .bpp).toNat = bpp := by
  have hle : bpp ≤ 64 := formatBpp_le h
  rw [readReg, h, Option.getD_some, BitVec.toNat_ofNat, Nat.mod_eq_of_lt (by omega)]

theorem State.readReg_bpp_of_unmatched {s : State} (h : s.regs.bpp? = none) : s.readReg .bpp = 0 := by
  rw [readReg, h]; rfl

/-- Settles O25: a listed pair is matched with its bits per pixel, and a pair not listed is unmatched. -/
theorem bppIsDerivedFromColor : Obligations.BppIsDerivedFromColor := by
  intro s
  refine ⟨fun i ct d bpp hmem hct hd => ?_, fun hnone => ?_⟩
  · subst hct hd
    exact State.readReg_bpp_of_matched (formatBpp_eq_some_iff.mpr (List.mem_map_of_mem hmem))
  · refine State.readReg_bpp_of_unmatched (Option.eq_none_iff_forall_ne_some.mpr fun bpp h => ?_)
    obtain ⟨⟨i, ct, d, bpp'⟩, hmem, heq⟩ := List.mem_map.mp (formatBpp_eq_some_iff.mp h)
    cases heq
    exact hnone i _ _ _ hmem ⟨rfl, rfl⟩

/-! ### Whose move a step makes (R20, R24, R250) -/

theorem step_idle_nil {s : State} (hidle : s.status.busy = false) (hbus : s.bus = []) : step s = .next s := by
  simp [step, hidle, hbus]

theorem step_idle_cons {s : State} {r : BusReq} {rest : List BusReq} (hidle : s.status.busy = false)
    (hbus : s.bus = r :: rest) : step s = hostAccess r.op (s.setBus rest) := by
  simp [step, hidle, hbus]

/-- An access whose count is not 0 lets the engine's next element go first. -/
theorem step_busy_succ {s : State} {n : Nat} {op : BusOp} {rest : List BusReq} (hbusy : s.status.busy = true)
    (hbus : s.bus = { after := n + 1, op := op } :: rest) :
    step s = engineStep (s.setBus ({ after := n, op := op } :: rest)) := by
  simp [step, hbusy, hbus]

/-- R127: `WAIT` stays in the queue until the command has ended. -/
theorem step_busy_wait {s : State} {rest : List BusReq} (hbusy : s.status.busy = true)
    (hbus : s.bus = { after := 0, op := .wait } :: rest) : step s = engineStep s := by
  simp [step, hbusy, hbus]

theorem step_busy_zero {s : State} {op : BusOp} {rest : List BusReq} (hwait : op ≠ .wait)
    (hbusy : s.status.busy = true) (hbus : s.bus = { after := 0, op := op } :: rest) :
    step s = hostAccess op (s.setBus rest) := by
  cases op with
  | wait => exact absurd rfl hwait
  | read w addr => simp [step, hbusy, hbus]
  | write w addr v => simp [step, hbusy, hbus]

/-- R24: with no command running, an oldest access that writes CMD runs the instruction its word decodes to. -/
theorem step_idle_writeCmd {s : State} {n : Nat} {v : Word} {i : Instr} {rest : List BusReq}
    (hidle : s.status.busy = false) (hbus : s.bus = { after := n, op := wr32 s.params .cmd v } :: rest)
    (hdec : decode .cmd v.toNat = .ok i) : step s = exec i (s.setBus rest) :=
  calc step s
    _ = hostAccess (wr32 s.params .cmd v) (s.setBus rest) := step_idle_cons hidle hbus
    _ = writeCmd v (s.setBus rest) := hostAccess_wr32_idle (s := s.setBus rest) hidle .cmd v
    _ = exec i (s.setBus rest) := by rw [writeCmd, hdec]

/-- Settles O23, by whether a command runs and by the head of the queue. -/
theorem stepServesTheHostInOrder : Obligations.StepServesTheHostInOrder :=
  ⟨fun _ => step_idle_nil, fun _ _ _ => step_idle_cons, fun _ _ _ _ _ => step_idle_writeCmd,
    fun _ _ _ _ => step_busy_succ, fun _ _ => step_busy_wait, fun _ _ _ => step_busy_zero⟩

/-! ### Blend modes (R31, R232) -/

/-- R31: what a word of CTRL.BLEND_MODE decodes to is encoded by that word. -/
theorem encode_of_decode_blendMode {w : Nat} {i : Instr} (h : decode .blendMode w = .ok i) : encode i = some w := by
  change decodeBlendMode w = .ok i at h
  unfold decodeBlendMode at h
  split at h <;> cases h <;> rfl

/-- Settles O57, mode by mode: its arm selects it, and only its own number decodes to it. -/
theorem blendModesSelectTheirFormula : Obligations.BlendModesSelectTheirFormula := by
  intro s i m h
  simp only [List.mem_cons, Prod.mk.injEq, List.not_mem_nil, or_false] at h
  obtain ⟨rfl, rfl⟩ | ⟨rfl, rfl⟩ | ⟨rfl, rfl⟩ := h
  all_goals
    refine ⟨rfl, fun w hdec => ?_⟩
    cases Option.some.inj (encode_of_decode_blendMode hdec)
    rfl

end Sys2Proof.Machine
end

section
/-! PROOFS. What every step keeps, part by part: the stores, the running command, the idle engine, and the error. -/

namespace Sys2Proof.Machine

/-! ### The stores (R47 to R53, R88) -/

/-- The part of the invariant that speaks of no command: raising an error needs no more of a state. -/
structure State.StoresWf (s : State) : Prop where
  params : s.params.wf
  mems : s.memsWf
  tables : s.tablesWf
  prev : s.prevWf

theorem State.memsWf_setMem {s : State} (h : s.memsWf) {id : MemId} {m : Mem} (hwf : Mem.wf m)
    (hcap : ∀ c ∈ m, c.1 < capOf s.params id) : (s.setMem id m).memsWf := by
  intro id'
  simp only [State.setMem_mems, State.setMem_params, Mems.get_set]
  split
  · next heq => subst heq; exact ⟨hwf, hcap⟩
  · exact h id'

/-- R88: a rewrite that stays below the memory's capacity keeps every memory well formed. -/
theorem State.memsWf_fill {s : State} (h : s.memsWf) {id : MemId} {lo n : Nat} {f : Nat → Byte → Byte}
    (hcap : lo + n ≤ capOf s.params id) : (s.setMem id (Mem.fill lo n f (s.mems.get id))).memsWf :=
  State.memsWf_setMem h (Mem.wf_fill (h id).1) (Mem.lt_fill (h id).2 hcap)

theorem State.memsWf_freeMem {s : State} (h : s.memsWf) {id : MemId} {n : Nat} {p : Nat → Bool}
    (hcap : n ≤ capOf s.params id) : (s.freeMem id n p).memsWf :=
  State.memsWf_fill h (by omega)

theorem State.StoresWf.freeMem {s : State} (h : s.StoresWf) {id : MemId} {n : Nat} {p : Nat → Bool}
    (hcap : n ≤ capOf s.params id) : (s.freeMem id n p).StoresWf :=
  { h with mems := State.memsWf_freeMem h.mems hcap }

theorem State.outFootprint_le (s : State) : s.outFootprint ≤ capOf s.params .out := by
  unfold State.outFootprint
  split
  · split
    · exact Nat.min_le_right _ _
    · exact Nat.zero_le _
  · split
    · exact Nat.min_le_right _ _
    · exact Nat.zero_le _

theorem State.StoresWf.freeOut {s : State} (h : s.StoresWf) : s.freeOut.StoresWf := h.freeMem s.outFootprint_le

theorem State.StoresWf.freeTable {s : State} (h : s.StoresWf) (id : TableId) : (s.freeTable id).StoresWf :=
  { h with tables := fun id' => (s.freeTable_length id id').trans (h.tables id') }

theorem State.StoresWf.freeTables {s : State} (h : s.StoresWf) (ids : List TableId) : (s.freeTables ids).StoresWf := by
  induction ids generalizing s with
  | nil => exact h
  | cons id ids ih => exact ih (h.freeTable id)

/-- R311: what abandoning a command leaves unspecified lies within the memories and RAMs. -/
theorem State.StoresWf.abandon {s : State} (h : s.StoresWf) : s.abandon.StoresWf := by
  have hout : (if inflates s.runningOp then s.freeOut.freeTables [.tcl, .tll, .td] else s.freeOut).StoresWf := by
    split
    · exact h.freeOut.freeTables _
    · exact h.freeOut
  unfold State.abandon
  dsimp only
  split
  · exact (hout.freeMem (Nat.min_le_right _ _)).freeMem (Nat.min_le_right _ _)
  · split
    · split
      · exact hout.freeTable .tll
      · exact hout.freeTable .td
      · exact hout.freeTable .tcl
      · exact hout
    · exact hout

/-! ### The idle engine: raising an error and leaving the ERROR state -/

theorem ErrCode.num_ne_zero (c : ErrCode) : c.num ≠ 0 := by cases c <;> decide

theorem State.StoresWf.freeRegs {s : State} (h : s.StoresWf) : s.freeRegs.StoresWf := by
  obtain ⟨-, hmems, htables, -, -, -, hparams, hregs, -⟩ := s.freeRegs_spec
  refine ⟨?_, ?_, ?_, ?_⟩
  · rw [hparams]; exact h.params
  · unfold State.memsWf; rw [hmems, hparams]; exact h.mems
  · unfold State.tablesWf; rw [htables]; exact h.tables
  · unfold State.prevWf; rw [hregs]; exact h.prev

/-- R283, R287: raising an error whose site is not 0 gives a state of the invariant. -/
theorem State.StoresWf.inv_raise {s : State} (h : s.StoresWf) {e : Err} (hsite : e.site ≠ 0) : (raise e s).Inv := by
  have hfree := ((h.freeTables (s.unspecifiedTables e)).freeOut).freeRegs
  exact
    { params := hfree.params
      mems := hfree.mems
      tables := hfree.tables
      status := ⟨fun ⟨hb, _⟩ => Bool.false_ne_true hb, fun ⟨hb, _⟩ => Bool.false_ne_true hb,
        fun ⟨hd, _⟩ => Bool.false_ne_true hd,
        iff_of_true rfl e.code.num_ne_zero, iff_of_true rfl hsite⟩
      prev := hfree.prev
      engine := ⟨fun hb => absurd hb Bool.false_ne_true, fun _ => rfl⟩ }

theorem State.Inv.stores {s : State} (h : s.Inv) : s.StoresWf := ⟨h.params, h.mems, h.tables, h.prev⟩

/-- R311 -/
theorem State.StoresWf.inv_softReset {s : State} (h : s.StoresWf) : (softReset s).Inv := by
  have hkept : (if s.status.busy then s.abandon else s).StoresWf := by
    split
    · exact h.abandon
    · exact h
  exact
    { hkept with
      prev := State.prevWf_of_reset rfl
      status := State.statusWf_of_reset rfl rfl
      engine := State.engineWf_of_reset rfl rfl }

/-! ### A running command -/

/-- What every element of a running command keeps until the command ends; where its cursors stand is said by
`State.inBounds`. -/
structure State.Running (s : State) : Prop extends s.StoresWf where
  status : s.statusWf
  busy : s.status.busy = true

theorem State.Inv.running {s : State} (h : s.Inv) (hbusy : s.status.busy = true) : s.Running :=
  { h.stores with status := h.status, busy := hbusy }

namespace State.Running

variable {s : State} (h : s.Running)
include h

theorem inv (hbounds : s.inBounds = true) : s.Inv :=
  { h.toStoresWf with status := h.status, engine := ⟨fun _ => hbounds, fun hidle => absurd h.busy (by simp [hidle])⟩ }

/-- R250: a command that ends normally leaves the engine at rest with DONE set. -/
theorem finish : s.finish.Inv := by
  obtain ⟨-, herror, -, hcode, hsite⟩ := h.status
  exact
    { h.toStoresWf with
      status := ⟨fun ⟨hb, _⟩ => Bool.false_ne_true hb, fun ⟨hb, _⟩ => Bool.false_ne_true hb,
        fun ⟨_, he⟩ => herror ⟨h.busy, he⟩, hcode, hsite⟩
      engine := ⟨fun hb => absurd hb Bool.false_ne_true, fun _ => rfl⟩ }

theorem setEngine (e : Engine) : (s.setEngine e).Running := { h with }

theorem setRegs {r : Regs} (hsite : r.errSite = s.regs.errSite) (hprev : r.prevDispose.toNat ≤ 2) :
    (s.setRegs r).Running := by
  obtain ⟨hdone, herror, hexcl, hcode, hs⟩ := h.status
  exact { h with prev := hprev, status := ⟨hdone, herror, hexcl, hcode, by simpa [hsite] using hs⟩ }

/-- A register that the invariant does not name. -/
theorem setOutSize (v : Word) : (s.setRegs { s.regs with outSize := v }).Running := h.setRegs rfl h.prev

theorem setMem {id : MemId} {m : Mem} (hwf : Mem.wf m) (hcap : ∀ c ∈ m, c.1 < capOf s.params id) :
    (s.setMem id m).Running :=
  { h with mems := State.memsWf_setMem h.mems hwf hcap }

theorem fill {id : MemId} {lo n : Nat} {f : Nat → Byte → Byte} (hcap : lo + n ≤ capOf s.params id) :
    (s.setMem id (Mem.fill lo n f (s.mems.get id))).Running :=
  { h with mems := State.memsWf_fill h.mems hcap }

end State.Running

end Sys2Proof.Machine
end

section
/-! PROOFS. What an outcome or a body must give for the invariant to hold after it, and the Inflate's elements. -/

namespace Sys2Proof.Machine

/-! ### Outcomes and bodies -/

/-- If the outcome is a next state, that state meets the invariant. -/
def NextInv (o : Host.Outcome State Fault Refusal) : Prop := ∀ t, o = .next t → t.Inv

/-- The body's state meets the invariant, or the body raises an error whose site is not 0 (R29). -/
inductive BodyInv : Except Err State → Prop where
  | ok {t : State} (h : t.Inv) : BodyInv (.ok t)
  | error {e : Err} (h : e.site ≠ 0) : BodyInv (.error e)

theorem NextInv.next {t : State} (h : t.Inv) : NextInv (.next t) := fun _ heq => by cases heq; exact h

theorem NextInv.refused (r : Refusal) : NextInv (.refused r) := fun _ heq => nomatch heq

theorem NextInv.fault (f : Fault) : NextInv (.fault f) := fun _ heq => nomatch heq

theorem BodyInv.malformed {site : BitVec 16} (h : site ≠ 0) : BodyInv (.error (malformed site)) := .error h

theorem BodyInv.param {site : BitVec 16} (h : site ≠ 0) : BodyInv (.error (param site)) := .error h

theorem BodyInv.nomem {site : BitVec 16} (h : site ≠ 0) : BodyInv (.error (nomem site)) := .error h

theorem State.StoresWf.settle {s : State} (h : s.StoresWf) {body : Except Err State} (hbody : BodyInv body) :
    NextInv (settle s body) := by
  cases hbody with
  | ok hinv => exact .next hinv
  | error hsite => exact .next (h.inv_raise hsite)

/-! ### Reading the input -/

theorem State.readBits_site {s : State} {w cur : Nat} {e : Err} (h : s.readBits w cur = .error e) : e.site ≠ 0 := by
  rw [State.readBits_error h]; decide

theorem State.decodeSymbol_site {s : State} {table : List (BitVec 10)} {n cur : Nat} {e : Err}
    (h : s.decodeSymbol table n cur = .error e) : e.site ≠ 0 := by
  obtain rfl | rfl := State.decodeSymbol_error h <;> decide

/-- R88: a field read from within the input ends within it, the empty field included. -/
theorem State.readBits_le {s : State} {w cur v cur' : Nat} (h : s.readBits w cur = .ok (v, cur'))
    (hcur : cur ≤ 8 * s.engine.inlen) : cur' ≤ 8 * s.engine.inlen := by
  obtain ⟨-, heq, hle⟩ := State.readBits_ok h
  rcases Nat.eq_zero_or_pos w with hw | hw
  · omega
  · exact hle hw

theorem State.readClLens_site {s : State} {order clLen : List Nat} {cur : Nat} {e : Err}
    (h : s.readClLens order clLen cur = .error e) : e.site ≠ 0 := by
  induction order generalizing clLen cur with
  | nil => cases h
  | cons j order ih =>
    rw [State.readClLens] at h
    split at h
    · next hread => cases h; exact State.readBits_site hread
    · exact ih h

/-- R166: the code-length-code lengths keep their number, and are read from within the input. -/
theorem State.readClLens_ok {s : State} {order clLen clLen' : List Nat} {cur cur' : Nat}
    (h : s.readClLens order clLen cur = .ok (clLen', cur')) (hcur : cur ≤ 8 * s.engine.inlen) :
    clLen'.length = clLen.length ∧ cur' ≤ 8 * s.engine.inlen := by
  induction order generalizing clLen cur with
  | nil => cases h; exact ⟨rfl, hcur⟩
  | cons j order ih =>
    rw [State.readClLens] at h
    split at h
    · cases h
    · next hread => simpa using ih h (State.readBits_le hread hcur)

/-! ### Table builds -/

theorem buildInto_site {id : TableId} {before : List TableId} {lens : List Nat} {s : State} {e : Err}
    (h : buildInto id before lens s = .error e) : e.site ≠ 0 := by
  obtain ⟨e', hbuild, heq⟩ | ⟨_, _, _, heq⟩ := buildInto_cases id before lens s <;> rw [heq] at h <;> cases h
  obtain rfl | rfl := buildTable_error hbuild
  · exact (by decide : (malformed 0x0501).site ≠ 0)
  · exact (by decide : (malformed 0x0502).site ≠ 0)

/-- R145, R53: a build of an alphabet that the RAM holds keeps the RAM's size. -/
theorem TableRam.length_load {r : TableRam} {n : Nat} {entries : List (BitVec 10)}
    (h : entries.length ≤ r.entries.length) : (r.load n entries).entries.length = r.entries.length := by
  simp [TableRam.load]; omega

/-- R145: a build that succeeds replaces the table RAMs by RAMs of the same sizes, and touches nothing else that the
invariant speaks of. -/
theorem buildInto_ok {id : TableId} {before : List TableId} {lens : List Nat} {s t : State} (hwf : s.tablesWf)
    (hlen : lens.length ≤ id.nmax) (h : buildInto id before lens s = .ok t) :
    ∃ tables b, t = (s.setTables tables).setEngine { s.engine with build := b } ∧ (s.setTables tables).tablesWf := by
  obtain ⟨_, _, heq⟩ | ⟨entries, b, hbuild, heq⟩ := buildInto_cases id before lens s <;> rw [heq] at h <;> cases h
  refine ⟨_, b, rfl, fun id' => ?_⟩
  simp only [State.setTables_tables, Tables.get_set]
  split
  · next hid =>
    subst hid
    rw [TableRam.length_load, hwf]
    rw [buildTable_length hbuild, hwf]
    omega
  · exact hwf id'

/-! ### Where a command stands -/

/-- A running command that stands at `p` meets the invariant if the command passes `p` and `p`'s bounds hold. -/
theorem State.Running.inv_at {s : State} (h : s.Running) {p : Phase} (hp : s.engine.phase = p)
    (hop : p.ops.contains s.runningOp = true) (hfits : s.phaseFits p = true) : s.Inv :=
  h.inv (by rw [State.inBounds, hp, hop, hfits]; rfl)

theorem State.op_mem {s : State} {ops : List Nat} {op : Nat} (hop : s.runningOp = op) (h : ops.contains op = true) :
    ops.contains s.runningOp = true := by
  rwa [hop]

theorem State.bounds_at {s : State} {p : Phase} (hp : s.engine.phase = p) (h : s.inBounds = true) :
    p.ops.contains s.runningOp = true ∧ s.phaseFits p = true := by
  rwa [State.inBounds, hp, Bool.and_eq_true] at h

/-! ### The Filter Reconstructor (R203 to R215) -/

theorem State.frameFits_iff (s : State) : s.frameFits = true ↔
    s.regs.bpp? = some s.engine.bpp ∧ 1 ≤ s.regs.frameW.toNat ∧ 1 ≤ s.regs.frameH.toNat ∧
      expectedSize s.regs.frameW.toNat s.regs.frameH.toNat s.engine.bpp ≤ s.params.outCap :=
  decide_eq_true_iff

/-- A running Filter Reconstructor whose frame fits OUT. -/
structure State.Filtering (s : State) : Prop extends s.Running where
  op : [3, 4].contains s.runningOp = true
  frame : s.frameFits = true

theorem State.Filtering.inv_of_row {s : State} (h : s.Filtering) (hp : s.engine.phase = .filt)
    (hrow : s.engine.row < s.regs.frameH.toNat) : s.Inv :=
  h.toRunning.inv_at hp h.op (by simp [State.phaseFits, h.frame, hrow])

/-- R88: row `y` of a frame lies within its S bytes, in which each row takes one byte more. -/
theorem row_le_expectedSize {w h bpp y : Nat} (hy : y < h) :
    lineBytes w bpp * y + lineBytes w bpp ≤ expectedSize w h bpp := by
  calc lineBytes w bpp * y + lineBytes w bpp
    _ = lineBytes w bpp * (y + 1) := (Nat.mul_succ ..).symm
    _ ≤ expectedSize w h bpp := Nat.mul_le_mul (Nat.le_succ _) hy

/-- R212: the compacted frame lies within its S bytes. -/
theorem compact_le_expectedSize (w h bpp : Nat) : ceilDiv (w * bpp * h) 8 ≤ expectedSize w h bpp := by
  have hline : w * bpp ≤ 8 * lineBytes w bpp := by unfold lineBytes ceilDiv; omega
  have hall : w * bpp * h ≤ 8 * (lineBytes w bpp * h) := by
    calc w * bpp * h ≤ 8 * lineBytes w bpp * h := Nat.mul_le_mul_right h hline
      _ = 8 * (lineBytes w bpp * h) := Nat.mul_assoc ..
  have hsize : lineBytes w bpp * h ≤ expectedSize w h bpp := Nat.mul_le_mul_right h (Nat.le_succ _)
  unfold ceilDiv
  omega

theorem lt_rowOut {pred : Predictor} {bw lb y cap : Nat} {m : Mem} (h : ∀ c ∈ m, c.1 < cap) (hcap : lb * y + lb ≤ cap) :
    ∀ c ∈ rowOut pred bw lb y m, c.1 < cap := by
  unfold rowOut
  exact Mem.lt_fill h hcap

theorem lt_compact {w h bpp cap : Nat} {m : Mem} (hm : ∀ c ∈ m, c.1 < cap) (hcap : expectedSize w h bpp ≤ cap) :
    ∀ c ∈ compact w h bpp m, c.1 < cap := by
  unfold compact
  split
  · exact Mem.lt_fill hm (by have := compact_le_expectedSize w h bpp; omega)
  · exact hm

/-- R203, R210: a reconstructed row gives the next row, or the command's end. -/
theorem State.Filtering.inv_filterRow {s : State} (h : s.Filtering) (hrow : s.engine.row < s.regs.frameH.toNat)
    (pred : Predictor) : (filterRow pred s).Inv := by
  obtain ⟨-, -, -, hsize⟩ := s.frameFits_iff.mp h.frame
  obtain ⟨hwf, hlt⟩ := h.mems .out
  have hwf' := wf_rowOut (pred := pred) (bw := byteWidth s.engine.bpp) (y := s.engine.row)
    (lb := lineBytes s.regs.frameW.toNat s.engine.bpp) hwf
  have hlt' := lt_rowOut (pred := pred) (bw := byteWidth s.engine.bpp) hlt
    ((row_le_expectedSize (w := s.regs.frameW.toNat) (bpp := s.engine.bpp) hrow).trans hsize)
  unfold filterRow
  dsimp only
  split
  · next hnext =>
    have hrun := (h.toRunning.setMem hwf' hlt').setEngine { s.engine with phase := .filt, row := s.engine.row + 1 }
    exact State.Filtering.inv_of_row { hrun with op := h.op, frame := h.frame } rfl hnext
  · have hrun := h.toRunning.setMem (wf_compact hwf') (lt_compact hlt' hsize)
    exact State.Running.finish (hrun.setOutSize _)

/-! ### The Inflate's elements (R88, R160 to R179) -/

theorem State.inflateFits_iff (s : State) : s.inflateFits = true ↔
    s.engine.inbase + s.engine.inlen ≤ s.params.inCap ∧ s.engine.cur ≤ 8 * s.engine.inlen ∧
      s.engine.pos ≤ s.engine.cap ∧ s.capFits = true := by
  simp [State.inflateFits, and_assoc]

theorem State.cap_le {s : State} (h : s.capFits = true) : s.engine.cap ≤ s.params.outCap := by
  simp only [State.capFits, Bool.and_eq_true, decide_eq_true_eq] at h
  exact h.1

theorem lt_copyLoop {start dist left pos back cap : Nat} {m : Mem} (h : ∀ c ∈ m, c.1 < cap) (hcap : pos + left ≤ cap) :
    ∀ c ∈ copyLoop start dist left pos back m, c.1 < cap := by
  induction left generalizing pos back m with
  | zero => exact h
  | succ left ih => exact ih (Mem.lt_fill h (by omega)) (by omega)

/-- R177, R88: a copy that ends within the output's capacity writes nothing beyond it. -/
theorem lt_copyBack {pos length dist cap : Nat} {m : Mem} (h : ∀ c ∈ m, c.1 < cap) (hcap : pos + length ≤ cap) :
    ∀ c ∈ copyBack pos length dist m, c.1 < cap :=
  lt_copyLoop h hcap

/-- A running Inflate, at whichever of its phases. -/
structure State.Inflating (s : State) : Prop extends s.Running where
  op : [1, 2, 4].contains s.runningOp = true
  input : s.engine.inbase + s.engine.inlen ≤ s.params.inCap
  cur : s.engine.cur ≤ 8 * s.engine.inlen
  pos : s.engine.pos ≤ s.engine.cap
  cap : s.capFits = true

/-- The phases of the Inflate (R184). -/
def inflatePhases : List Phase := [.hdr, .codeLens, .syms, .dist]

theorem State.inBounds_inflate {s : State} (hp : s.engine.phase ∈ inflatePhases) :
    s.inBounds = ([1, 2, 4].contains s.runningOp && s.inflateFits) := by
  simp only [inflatePhases, List.mem_cons, List.not_mem_nil, or_false] at hp
  unfold State.inBounds
  obtain hp | hp | hp | hp := hp <;> rw [hp] <;> rfl

theorem State.Running.inflating {s : State} (h : s.Running) (hp : s.engine.phase ∈ inflatePhases)
    (hbounds : s.inBounds = true) : s.Inflating := by
  rw [State.inBounds_inflate hp, Bool.and_eq_true, State.inflateFits_iff] at hbounds
  obtain ⟨hop, hinput, hcur, hpos, hcap⟩ := hbounds
  exact { h with op := hop, input := hinput, cur := hcur, pos := hpos, cap := hcap }

namespace State.Inflating

variable {s : State} (h : s.Inflating)
include h

/-- At any of its phases, a running Inflate meets the invariant. -/
theorem inv_of_phase (hp : s.engine.phase ∈ inflatePhases) : s.Inv := by
  refine h.toRunning.inv ?_
  rw [State.inBounds_inflate hp, Bool.and_eq_true, State.inflateFits_iff]
  exact ⟨h.op, h.input, h.cur, h.pos, h.cap⟩

/-- The Inflate goes on while its cursors stay within the input and the output it started with. -/
theorem advance {e : Engine} (hin : e.inbase = s.engine.inbase ∧ e.inlen = s.engine.inlen)
    (hcap : e.cap = s.engine.cap ∧ e.bpp = s.engine.bpp) (hcur : e.cur ≤ 8 * s.engine.inlen)
    (hpos : e.pos ≤ s.engine.cap) : (s.setEngine e).Inflating := by
  obtain ⟨hbase, hlen⟩ := hin
  obtain ⟨hc, hbpp⟩ := hcap
  refine { h.toRunning.setEngine e with op := h.op, input := ?_, cur := ?_, pos := ?_, cap := ?_ }
  · simpa [hbase, hlen] using h.input
  · simpa [hlen] using hcur
  · simpa [hc] using hpos
  · have hcap := h.cap
    simp only [State.capFits, State.frameFits, State.runningOp] at hcap
    simpa [State.capFits, State.frameFits, State.runningOp, hc, hbpp] using hcap

/-- An element that moves only the phase and registers of its own keeps the cursors where they were. -/
theorem inv_goto {p : Phase} (hp : p ∈ inflatePhases) : (s.goto p).Inv :=
  (h.advance (e := { s.engine with phase := p }) ⟨rfl, rfl⟩ ⟨rfl, rfl⟩ h.cur h.pos).inv_of_phase hp

theorem latchHeader (b : Bool) (t : BitVec 2) : (s.latchHeader b t).Inflating :=
  h.advance ⟨rfl, rfl⟩ ⟨rfl, rfl⟩ h.cur h.pos

theorem setOut {m : Mem} (hwf : Mem.wf m) (hcap : ∀ c ∈ m, c.1 < capOf s.params .out) :
    (s.setMem .out m).Inflating :=
  { h with toRunning := h.toRunning.setMem hwf hcap }

theorem fillOut {lo n : Nat} {f : Nat → Byte → Byte} (hfit : lo + n ≤ s.engine.cap) :
    (s.setMem .out (Mem.fill lo n f s.mems.out)).Inflating :=
  { h with toRunning := h.toRunning.fill (id := .out) (hfit.trans (State.cap_le h.cap)) }

/-- R145 -/
theorem of_buildInto {id : TableId} {before : List TableId} {lens : List Nat} {t : State}
    (hbuild : buildInto id before lens s = .ok t) (hlen : lens.length ≤ id.nmax) : t.Inflating := by
  obtain ⟨tables, b, rfl, hwf⟩ := buildInto_ok h.tables hlen hbuild
  have htables : (s.setTables tables).Inflating := { h with tables := hwf }
  exact htables.advance ⟨rfl, rfl⟩ ⟨rfl, rfl⟩ h.cur h.pos

/-! The end of a block and of the Inflate. -/

/-- R264: DECODE_FRAME's capacity has been checked against its frame. -/
theorem frameFits_of_op (hop : s.runningOp = 4) : s.frameFits = true := by
  have hcap := h.cap
  simp only [State.capFits, hop, if_true, Bool.and_eq_true] at hcap
  obtain ⟨-, hframe, -⟩ := hcap
  exact hframe

theorem inv_endInflate : BodyInv (endInflate s) := by
  have hregs := h.toRunning.setRegs (r := { s.regs with
    outPos := BitVec.ofNat 32 s.engine.pos, bitPos := BitVec.ofNat 32 s.engine.cur }) rfl h.prev
  unfold endInflate
  dsimp only
  split
  · next hop =>
    split
    · exact .malformed (by decide)
    · have hframe := h.frameFits_of_op hop
      obtain ⟨-, -, hrow, -⟩ := s.frameFits_iff.mp hframe
      exact .ok (State.Filtering.inv_of_row
        { hregs.setEngine _ with op := State.op_mem hop rfl, frame := hframe } rfl hrow)
  · exact .ok hregs.finish

theorem inv_endBlock : BodyInv (endBlock s) := by
  unfold endBlock
  split
  · exact h.inv_endInflate
  · exact .ok (h.inv_goto (by decide))

/-! Block headers. -/

theorem inv_bodyStored : BodyInv (bodyStored s) := by
  unfold bodyStored storedBlock
  dsimp only
  split
  · next hbody =>
    split_ifs at hbody <;> cases hbody
    all_goals exact .malformed (by decide)
  · next hbody =>
    split_ifs at hbody with hhdr hlen hin hout
    cases hbody
    exact inv_endBlock ((h.fillOut (by omega)).advance ⟨rfl, rfl⟩ ⟨rfl, rfl⟩ (by simp; omega) (by simp; omega))

theorem inv_dynamicHeader : BodyInv (dynamicHeader s) := by
  unfold dynamicHeader
  split
  · next hread => exact .error (State.readBits_site hread)
  next hlit =>
  split
  · next hread => exact .error (State.readBits_site hread)
  next hdist =>
  split
  · next hread => exact .error (State.readBits_site hread)
  next hclen =>
  split
  · next hread => exact .error (State.readClLens_site hread)
  next hlens =>
  obtain ⟨hlength, hcur⟩ := State.readClLens_ok hlens
    (State.readBits_le hclen (State.readBits_le hdist (State.readBits_le hlit h.cur)))
  dsimp only
  split
  · next hbuild => exact .error (buildInto_site hbuild)
  · next hbuild =>
    refine .ok (inv_goto (of_buildInto ?_ hbuild (by rw [hlength]; decide)) (by decide))
    exact h.advance ⟨rfl, rfl⟩ ⟨rfl, rfl⟩ hcur h.pos

/-! Code-length symbols. -/

theorem inv_buildBlockTables : BodyInv (buildBlockTables s) := by
  unfold buildBlockTables
  split
  · next hbuild => exact .error (buildInto_site hbuild)
  next hll =>
  have htll := h.of_buildInto hll (by simp [Engine.llLens, TableId.nmax])
  split
  · next hbuild => exact .error (buildInto_site hbuild)
  · next hd =>
    exact .ok (inv_goto (htll.of_buildInto hd (by simp [Engine.distLens, TableId.nmax])) (by decide))

theorem inv_nextCodeLength : BodyInv (nextCodeLength s) := by
  unfold nextCodeLength
  split
  · exact .ok (h.inv_goto (by decide))
  · exact h.inv_buildBlockTables

theorem setLens (lens : List Nat) : (s.setEngine { s.engine with lens := lens }).Inflating :=
  h.advance ⟨rfl, rfl⟩ ⟨rfl, rfl⟩ h.cur h.pos

theorem inv_repeatFill (r v : Nat) : BodyInv (repeatFill r v s) := by
  unfold repeatFill
  split
  · exact .malformed (by decide)
  · exact (h.setLens _).inv_nextCodeLength

theorem inv_repeatCount (base width v : Nat) : BodyInv (repeatCount base width v s) := by
  unfold repeatCount
  split
  · next hread => exact .error (State.readBits_site hread)
  · next hread =>
    refine inv_repeatFill ?_ _ _
    exact h.advance ⟨rfl, rfl⟩ ⟨rfl, rfl⟩ (State.readBits_le hread h.cur) h.pos

theorem inv_bodyClRepeatPrev : BodyInv (bodyClRepeatPrev s) := by
  unfold bodyClRepeatPrev
  split
  · exact .malformed (by decide)
  · exact h.inv_repeatCount _ _ _

/-! Literal/length and distance symbols. -/

theorem inv_bodyLit (hp : s.engine.phase = .syms) (v : Nat) : BodyInv (bodyLit v s) := by
  unfold bodyLit
  split
  · exact .malformed (by decide)
  · refine .ok (inv_of_phase (advance (h.fillOut (by omega)) ⟨rfl, rfl⟩ ⟨rfl, rfl⟩ h.cur (by simp; omega)) ?_)
    show s.engine.phase ∈ inflatePhases
    rw [hp]
    decide

theorem inv_bodyLen (sym : Nat) : BodyInv (bodyLen sym s) := by
  unfold bodyLen
  split
  · next hread => exact .error (State.readBits_site hread)
  · next hread =>
    exact .ok (inv_of_phase (h.advance ⟨rfl, rfl⟩ ⟨rfl, rfl⟩ (State.readBits_le hread h.cur) h.pos)
      (by decide : Phase.dist ∈ inflatePhases))

/-- R177: after the copy of a length that fits, at the cursor after its distance. -/
theorem copied {dist cur : Nat} (hfit : s.engine.pos + s.engine.length ≤ s.engine.cap)
    (hcur : cur ≤ 8 * s.engine.inlen) :
    ((s.setMem .out (copyBack s.engine.pos s.engine.length dist s.mems.out)).setEngine
      { s.engine with phase := .syms, pos := s.engine.pos + s.engine.length, cur := cur }).Inflating := by
  obtain ⟨hwf, hlt⟩ := h.mems .out
  exact advance (h.setOut (wf_copyBack hwf) (lt_copyBack hlt (hfit.trans (State.cap_le h.cap)))) ⟨rfl, rfl⟩ ⟨rfl, rfl⟩
    hcur hfit

theorem inv_bodyDist (dsym : Nat) : BodyInv (bodyDist dsym s) := by
  unfold bodyDist
  split
  · next hread => exact .error (State.readBits_site hread)
  next hread =>
  dsimp only
  split_ifs with hback hfit
  · exact .malformed (by decide)
  · exact .malformed (by decide)
  · exact .ok ((h.copied (Nat.le_of_not_lt hfit) (State.readBits_le hread h.cur)).inv_of_phase
      (by decide : Phase.syms ∈ inflatePhases))

end State.Inflating

end Sys2Proof.Machine
end

section
/-! PROOFS. Each element of a running command keeps the invariant: one lemma per point at which a code is read. -/

namespace Sys2Proof.Machine

/-! ### The Inflate -/

namespace State.Inflating

variable {s : State} (h : s.Inflating)
include h

/-- R161 to R166 -/
theorem nextInv_blockHdr {w : Nat} {i : Instr} (hdec : decode .blockHdr w = .ok i) : NextInv (exec i s) := by
  have hlatch (b t) := (h.latchHeader b t).toStoresWf
  change decodeBlockHdr w = .ok i at hdec
  unfold decodeBlockHdr at hdec
  split at hdec
  · cases hdec
  split at hdec <;> cases hdec
  · exact (hlatch _ 0).settle (h.latchHeader _ 0).inv_bodyStored
  · exact .next (inv_of_phase (advance (h.latchHeader _ 1) ⟨rfl, rfl⟩ ⟨rfl, rfl⟩ h.cur h.pos)
      (by decide : Phase.syms ∈ inflatePhases))
  · exact (hlatch _ 2).settle (h.latchHeader _ 2).inv_dynamicHeader
  · exact (hlatch _ 3).settle (.malformed (by decide))

/-- R167 to R170 -/
theorem nextInv_clSym {w : Nat} {i : Instr} (hdec : decode .clSym w = .ok i) : NextInv (exec i s) := by
  change decodeCLSym w = .ok i at hdec
  unfold decodeCLSym at hdec
  split at hdec
  · cases hdec
    exact h.toStoresWf.settle (h.setLens _).inv_nextCodeLength
  split at hdec <;> cases hdec
  · exact h.toStoresWf.settle h.inv_bodyClRepeatPrev
  · exact h.toStoresWf.settle (h.inv_repeatCount _ _ _)
  · exact h.toStoresWf.settle (h.inv_repeatCount _ _ _)

/-- R171 to R174, R178 -/
theorem nextInv_llSym (hp : s.engine.phase = .syms) {w : Nat} {i : Instr} (hdec : decode .llSym w = .ok i) :
    NextInv (exec i s) := by
  change decodeLLSym w = .ok i at hdec
  unfold decodeLLSym at hdec
  split_ifs at hdec <;> cases hdec
  · exact h.toStoresWf.settle (h.inv_bodyLit hp _)
  · exact h.toStoresWf.settle h.inv_endBlock
  · show NextInv (settle s (bodyLen w s))
    exact h.toStoresWf.settle (h.inv_bodyLen w)
  · exact h.toStoresWf.settle (.malformed (by decide))

/-- R175 to R179 -/
theorem nextInv_dSym {w : Nat} {i : Instr} (hdec : decode .dSym w = .ok i) : NextInv (exec i s) := by
  change decodeDSym w = .ok i at hdec
  unfold decodeDSym at hdec
  split_ifs at hdec <;> cases hdec
  · exact h.toStoresWf.settle (h.inv_bodyDist _)
  · exact h.toStoresWf.settle (.malformed (by decide))

end State.Inflating

/-- R160: an Inflate starts at the first bit of its input and the first byte of its output. -/
theorem State.Running.inv_startInflate {s : State} (h : s.Running) (hop : [1, 2, 4].contains s.runningOp = true)
    {inbase inlen : Nat} (hin : inbase + inlen ≤ s.params.inCap) (hcap : s.capFits = true) :
    (startInflate inbase inlen s).Inv := by
  refine State.Inflating.inv_of_phase { h.setEngine _ with op := hop, input := hin, cur := ?_, pos := ?_, cap := hcap }
    (by decide : Phase.hdr ∈ inflatePhases)
  · exact Nat.zero_le _
  · exact Nat.zero_le _

/-! ### The Filter Reconstructor -/

/-- R203 to R211 -/
theorem State.Filtering.nextInv_filterType {s : State} (h : s.Filtering) (hrow : s.engine.row < s.regs.frameH.toNat)
    {w : Nat} {i : Instr} (hdec : decode .filterType w = .ok i) : NextInv (exec i s) := by
  change decodeFilterType w = .ok i at hdec
  unfold decodeFilterType at hdec
  split at hdec
  · cases hdec
  split at hdec <;> cases hdec
  case h_6 => exact h.toStoresWf.settle (.malformed (by decide))
  all_goals exact .next (h.inv_filterRow hrow _)

/-! ### The Frame Compositor -/

/-- R222: COMPOSITE with every check passed. -/
structure State.Compositing (s : State) : Prop extends s.Running where
  op : s.runningOp = 5
  passes : s.compositePasses = true

/-- R222: what the geometry checks say of the memories the three steps rewrite. -/
theorem geometryChecks_ok {s : State} (h : geometryChecks s = .ok ()) :
    4 * s.regs.canvasW.toNat * s.regs.canvasH.toNat ≤ s.params.canvasCap ∧
      (s.regs.dispose.toNat = 2 → 4 * s.regs.frameW.toNat * s.regs.frameH.toNat ≤ s.params.snapCap) := by
  unfold geometryChecks at h
  dsimp only at h
  split_ifs at h with hempty hcanvas hframe hout hprev hsnap
  exact ⟨Nat.le_of_not_lt hcanvas, fun hd => Nat.le_of_not_lt fun hlt => hsnap ⟨hd, hlt⟩⟩

theorem geometryChecks_site {s : State} {e : Err} (h : geometryChecks s = .error e) : e.site ≠ 0 := by
  unfold geometryChecks at h
  dsimp only at h
  split_ifs at h <;> cases h <;> decide

theorem State.geometryPasses_iff (s : State) : s.geometryPasses = true ↔ geometryChecks s = .ok () := by
  unfold State.geometryPasses
  split
  · next h => simp [h]
  · next h => simp [h]

theorem State.compositePasses_iff (s : State) : s.compositePasses = true ↔
    s.indexed = true ∧ s.modeChosen = true ∧ s.regs.dispose.toNat ≤ 2 ∧ s.regs.blend.toNat ≤ 1 ∧
      geometryChecks s = .ok () := by
  simp [State.compositePasses, State.geometryPasses_iff, and_assoc]

namespace State.Compositing

variable {s : State} (h : s.Compositing)
include h

theorem canvas_le : 4 * s.regs.canvasW.toNat * s.regs.canvasH.toNat ≤ s.params.canvasCap := by
  obtain ⟨-, -, -, -, hgeom⟩ := s.compositePasses_iff.mp h.passes
  exact (geometryChecks_ok hgeom).1

theorem snap_le (hd : s.regs.dispose.toNat = 2) : 4 * s.regs.frameW.toNat * s.regs.frameH.toNat ≤ s.params.snapCap := by
  obtain ⟨-, -, -, -, hgeom⟩ := s.compositePasses_iff.mp h.passes
  exact (geometryChecks_ok hgeom).2 hd

/-- R220: the next of the three steps, after a rewrite of a memory or none. -/
theorem inv_goto {p : Phase} (hp : p ∈ [Phase.disposeRestore, .disposeSnap, .paint]) : (s.goto p).Inv := by
  have hrun := h.toRunning.setEngine { s.engine with phase := p }
  simp only [List.mem_cons, List.not_mem_nil, or_false] at hp
  obtain rfl | rfl | rfl := hp <;> exact hrun.inv_at rfl (State.op_mem h.op rfl) h.passes

/-- R225, R226, R228: a rewrite of the canvas's pixel bytes. -/
theorem fillCanvas (f : Nat → Byte → Byte) :
    (s.setMem .canvas (Mem.fill 0 (4 * s.regs.canvasW.toNat * s.regs.canvasH.toNat) f s.mems.canvas)).Compositing :=
  { h with toRunning := h.toRunning.fill (id := .canvas) ((Nat.zero_add _).trans_le h.canvas_le) }

/-- R227: a snapshot is taken only where the check found room for it. -/
theorem snapped (hd : s.regs.dispose.toNat = 2) : (s.setMem .snap s.snapTaken).Compositing := by
  unfold snapTaken
  exact { h with toRunning := h.toRunning.fill (id := .snap) ((Nat.zero_add _).trans_le (h.snap_le hd)) }

/-- R237: the record of the previous frame takes a dispose code that has passed its check. -/
theorem inv_paintFrame (isOver : Bool) : (paintFrame isOver s).Inv := by
  obtain ⟨-, -, hdispose, -⟩ := s.compositePasses_iff.mp h.passes
  exact State.Running.finish (State.Running.setRegs (h.fillCanvas _).toRunning rfl hdispose)

/-- R224 to R226 -/
theorem nextInv_disposeRestore {w : Nat} {i : Instr} (hdec : decode (.dispose .restore) w = .ok i) :
    NextInv (exec i s) := by
  change decodeDispose .restore w = .ok i at hdec
  unfold decodeDispose at hdec
  split at hdec
  · cases hdec
  split at hdec <;> cases hdec
  · exact .next (h.inv_goto (by decide))
  · exact .next (inv_goto (h.fillCanvas _) (by decide))
  · exact .next (inv_goto (h.fillCanvas _) (by decide))
  · exact .next (h.inv_goto (by decide))

/-- R227 -/
theorem nextInv_disposeSnap {i : Instr} (hdec : decode (.dispose .snap) s.regs.dispose.toNat = .ok i) :
    NextInv (exec i s) := by
  change decodeDispose .snap s.regs.dispose.toNat = .ok i at hdec
  unfold decodeDispose at hdec
  split at hdec
  · cases hdec
  split at hdec <;> cases hdec
  case h_3 hd => exact .next ((h.snapped hd).inv_goto (by decide))
  all_goals exact .next (h.inv_goto (by decide))

/-- R228 to R231, R237 -/
theorem nextInv_blendPaint {w : Nat} {i : Instr} (hdec : decode (.blend .paint) w = .ok i) : NextInv (exec i s) := by
  change decodeBlend .paint w = .ok i at hdec
  unfold decodeBlend at hdec
  split at hdec
  · cases hdec
  split at hdec <;> cases hdec <;> exact .next (h.inv_paintFrame _)

end State.Compositing

/-! The checks of COMPOSITE (R222), each of which latches what the next phase's bounds say. -/

/-- R232: the formula selected is the one CTRL.BLEND_MODE gives. -/
theorem State.Running.nextInv_blendMode {s : State} (h : s.Running) (hop : [5].contains s.runningOp = true)
    (hindexed : s.indexed = true) {i : Instr} (hdec : decode .blendMode s.regs.blendMode.toNat = .ok i) :
    NextInv (exec i s) := by
  have hselect (m : BlendMode) (hm : blendModeOf s.regs.blendMode = some m) : (selectMode m s).Inv := by
    refine (h.setEngine { s.engine with phase := .disposeCheck, mode := m }).inv_at rfl hop ?_
    have hchosen : (selectMode m s).modeChosen = true := by simpa [State.modeChosen, selectMode] using hm
    exact Bool.and_eq_true_iff.mpr ⟨hindexed, hchosen⟩
  change decodeBlendMode s.regs.blendMode.toNat = .ok i at hdec
  unfold decodeBlendMode at hdec
  split at hdec <;> cases hdec
  case h_4 => exact h.toStoresWf.settle (.param (by decide))
  all_goals
    next hm => exact .next (hselect _ (by simp [blendModeOf, hm]))

theorem State.Running.nextInv_disposeCheck {s : State} (h : s.Running) (hop : [5].contains s.runningOp = true)
    (hchosen : (s.indexed && s.modeChosen) = true) {i : Instr}
    (hdec : decode (.dispose .check) s.regs.dispose.toNat = .ok i) : NextInv (exec i s) := by
  have hnext (hd : s.regs.dispose.toNat ≤ 2) : (disposeChecked s).Inv :=
    (h.setEngine _).inv_at rfl hop (Bool.and_eq_true_iff.mpr ⟨hchosen, decide_eq_true hd⟩)
  change decodeDispose .check s.regs.dispose.toNat = .ok i at hdec
  unfold decodeDispose at hdec
  split at hdec
  · cases hdec
  split at hdec <;> cases hdec
  case h_4 => exact h.toStoresWf.settle (.param (by decide))
  all_goals
    next hd => exact .next (hnext (by omega))

theorem State.Running.nextInv_blendCheck {s : State} (h : s.Running) (hop : s.runningOp = 5)
    (hindexed : s.indexed = true) (hmode : s.modeChosen = true) (hdispose : s.regs.dispose.toNat ≤ 2) {i : Instr}
    (hdec : decode (.blend .check) s.regs.blend.toNat = .ok i) : NextInv (exec i s) := by
  have hnext (hb : s.regs.blend.toNat ≤ 1) : BodyInv (blendChecked s) := by
    unfold blendChecked
    split
    · next hgeom => exact .error (geometryChecks_site hgeom)
    · next hgeom =>
      have hpass := s.compositePasses_iff.mpr ⟨hindexed, hmode, hdispose, hb, hgeom⟩
      exact .ok (State.Compositing.inv_goto { h with op := hop, passes := hpass } (by decide))
  change decodeBlend .check s.regs.blend.toNat = .ok i at hdec
  unfold decodeBlend at hdec
  split at hdec
  · cases hdec
  split at hdec <;> cases hdec
  · next hb => exact h.toStoresWf.settle (hnext (by omega))
  · next hb => exact h.toStoresWf.settle (hnext (by omega))
  · exact h.toStoresWf.settle (.param (by decide))

/-! ### BUILD_TABLE -/

theorem State.Running.inv_buildSelected {s : State} (h : s.Running) (id : TableId) : BodyInv (buildSelected id s) := by
  unfold buildSelected
  dsimp only
  split_ifs with hn hin hlens
  · exact .param (by decide)
  · exact .param (by decide)
  · exact .param (by decide)
  split
  · next hbuild => exact .error (buildInto_site hbuild)
  · next hbuild =>
    obtain ⟨tables, b, rfl, hwf⟩ := buildInto_ok h.tables (by simp [State.hostLens]; omega) hbuild
    have hrun : (s.setTables tables).Running := { h with tables := hwf }
    exact .ok (hrun.setEngine _).finish

theorem State.Running.nextInv_tblSel {s : State} (h : s.Running) {w : Nat} {i : Instr}
    (hdec : decode .tblSel w = .ok i) : NextInv (exec i s) := by
  change decodeTblSel w = .ok i at hdec
  unfold decodeTblSel at hdec
  split at hdec <;> cases hdec
  case h_4 => exact h.toStoresWf.settle (.param (by decide))
  all_goals exact h.toStoresWf.settle (h.inv_buildSelected _)

/-! ### The format check (R200, R201, R222, R253, R254) -/

/-- R200: what a matched pair decodes to goes on with the pair's bits per pixel. -/
theorem exec_of_decode_color {ct d : Nat} {i : Instr} (hct : ct < 256) (hdec : decode .color (ct + 256 * d) = .ok i) :
    ∃ bpp, formatBpp ct d = some bpp ∧ ∀ s, exec i s = settle s (acceptFormat ct bpp s) := by
  change decodeColor (ct + 256 * d) = .ok i at hdec
  unfold decodeColor at hdec
  rw [show (ct + 256 * d) % 256 = ct by omega, show (ct + 256 * d) / 256 = d by omega] at hdec
  split at hdec
  · cases hdec
  split at hdec <;> cases hdec <;> exact ⟨_, rfl, fun _ => rfl⟩

/-- R253, R254: the frame a format check lets through fits OUT. -/
theorem State.frameFits_of_checks {s : State} {bpp : Nat} (hbpp : s.regs.bpp? = some bpp)
    (hdim : ¬ (s.regs.frameW.toNat = 0 ∨ s.regs.frameH.toNat = 0))
    (hsize : ¬ s.params.outCap < expectedSize s.regs.frameW.toNat s.regs.frameH.toNat bpp) {e : Engine}
    (he : e.bpp = bpp) : (s.setEngine e).frameFits = true := by
  rw [State.frameFits_iff]
  subst he
  obtain ⟨hw, hh⟩ := not_or.mp hdim
  exact ⟨hbpp, Nat.one_le_iff_ne_zero.mpr hw, Nat.one_le_iff_ne_zero.mpr hh, Nat.le_of_not_lt hsize⟩

/-- R254: S, checked against OUT, is a capacity that fits it. -/
theorem State.capFits_of_frameFits {s : State} (hop : s.runningOp = 4) (hframe : s.frameFits = true)
    (hcap : s.engine.cap = expectedSize s.regs.frameW.toNat s.regs.frameH.toNat s.engine.bpp) : s.capFits = true := by
  obtain ⟨-, -, -, hsize⟩ := s.frameFits_iff.mp hframe
  simp [State.capFits, hop, hframe, hcap, hsize]

namespace State.Running

variable {s : State} (h : s.Running) {bpp : Nat} (hbpp : s.regs.bpp? = some bpp)
include h hbpp

theorem inv_defilterChecks (hop : s.runningOp = 3) : BodyInv (defilterChecks bpp s) := by
  unfold defilterChecks
  dsimp only
  split_ifs with hdim hsize
  · exact .param (by decide)
  · exact .param (by decide)
  · have hframe := State.frameFits_of_checks hbpp hdim hsize
      (e := { s.engine with phase := .filt, bpp := bpp, row := 0 }) rfl
    exact .ok (State.Filtering.inv_of_row { h.setEngine _ with op := State.op_mem hop rfl, frame := hframe } rfl
      (show 0 < s.regs.frameH.toNat by omega))

theorem inv_decodeFrameChecks (hop : s.runningOp = 4) (hin : s.payloadFits = true) :
    BodyInv (decodeFrameChecks bpp s) := by
  unfold decodeFrameChecks
  dsimp only
  split_ifs with hdim hsize
  · exact .param (by decide)
  · exact .nomem (by decide)
  · refine .ok (State.Running.inv_at (p := .zlibCmf) ((h.setOutSize _).setEngine _) rfl (State.op_mem hop rfl) ?_)
    have hframe := State.frameFits_of_checks hbpp hdim hsize (e := { s.engine with phase := .zlibCmf, bpp := bpp }) rfl
    exact Bool.and_eq_true_iff.mpr ⟨hin, State.capFits_of_frameFits hop hframe rfl⟩

theorem inv_compositeFormatCheck (hop : s.runningOp = 5) :
    BodyInv (compositeFormatCheck s.regs.colorType.toNat bpp s) := by
  unfold compositeFormatCheck
  split
  · next hct =>
    have hrun := h.setEngine { s.engine with phase := .blendMode, bpp := bpp }
    exact .ok (hrun.inv_at rfl (State.op_mem hop rfl) (by simp [State.phaseFits, State.indexed, hct, hbpp]))
  · exact .param (by decide)

theorem inv_acceptFormat (hop : Phase.format.ops.contains s.runningOp = true)
    (hfits : s.phaseFits .format = true) : BodyInv (acceptFormat s.regs.colorType.toNat bpp s) := by
  have hcases : s.runningOp = 3 ∨ s.runningOp = 4 ∨ s.runningOp = 5 := by
    simpa [Phase.ops] using hop
  unfold acceptFormat
  obtain hop | hop | hop := hcases <;> simp only [hop]
  · exact h.inv_defilterChecks hbpp hop
  · exact h.inv_decodeFrameChecks hbpp hop (by simpa [State.phaseFits, hop] using hfits)
  · exact h.inv_compositeFormatCheck hbpp hop

end State.Running

end Sys2Proof.Machine
end

section
/-! PROOFS. The engine's step, the command words and the host's accesses keep the invariant and never fault. -/

namespace Sys2Proof.Machine

/-! ### What the engine reads (R101, R149) -/

/-- The words of a code space from 0 up that it assigns a meaning or an error of the spec. -/
def assignedWords : Format → Nat
  | .cmd => 2 ^ 32
  | .blockHdr => 8
  | .fixedLL7 => 24
  | .fixedLL8 | .fixedLL9 => 0
  | .fixedD5 | .dSym => 32
  | .llSym => 288
  | .clSym => 19
  | .zlibCmf | .zlibFlg | .filterType | .dispose _ | .blend _ => 256
  | .blendMode | .tblSel => 4
  | .color => 2 ^ 16

/-- R100: every command word is an instruction. -/
theorem decode_cmd_ok {w : Nat} (h : w < 2 ^ 32) : ∃ i, decode .cmd w = .ok i := by
  change ∃ i, decodeCmd w = .ok i
  unfold decodeCmd
  rw [if_neg (by omega)]
  split <;> exact ⟨_, rfl⟩

theorem decodeLLSym_ne_noCode {w : Nat} (h : w < 288) : decodeLLSym w ≠ .error .noCode := by
  unfold decodeLLSym
  split_ifs <;> simp
  omega

theorem decode_ne_noCode {fmt : Format} {w : Nat} (h : w < assignedWords fmt) : decode fmt w ≠ .error .noCode := by
  cases fmt <;> simp only [assignedWords] at h <;> simp only [decode]
  case cmd =>
    obtain ⟨i, hdec⟩ := decode_cmd_ok h
    exact fun herr => nomatch hdec.symm.trans herr
  case blockHdr =>
    rw [decodeBlockHdr, if_neg (by omega)]
    split <;> simp
  case fixedLL7 => rw [decodeFixedLL7, if_pos (by omega)]; exact decodeLLSym_ne_noCode (by omega)
  case fixedLL8 | fixedLL9 => exact absurd h (Nat.not_lt_zero w)
  case llSym => exact decodeLLSym_ne_noCode h
  case fixedD5 | dSym =>
    unfold decodeDSym
    split_ifs
    · simp
    · simp
    · omega
  case clSym =>
    unfold decodeCLSym
    split_ifs
    · simp
    · obtain rfl | rfl | rfl : w = 16 ∨ w = 17 ∨ w = 18 := by omega
      all_goals simp
  case zlibCmf =>
    rw [decodeZlibCmf, if_neg (by omega)]
    split_ifs <;> simp
  case zlibFlg =>
    rw [decodeZlibFlg, if_neg (by omega)]
    split_ifs <;> simp
  case filterType =>
    unfold decodeFilterType
    rw [if_neg (by omega)]
    split <;> simp
  case dispose u =>
    unfold decodeDispose
    rw [if_neg (by omega)]
    split <;> simp
  case blend u =>
    unfold decodeBlend
    rw [if_neg (by omega)]
    split <;> simp
  case blendMode =>
    unfold decodeBlendMode
    interval_cases w <;> simp
  case tblSel =>
    unfold decodeTblSel
    interval_cases w <;> simp
  case color =>
    rw [decodeColor, if_neg (by omega)]
    split <;> simp

theorem fetchHeader_ok {s t : State} {fmt : Format} {w : Nat} (h : fetchHeader s = .ok (fmt, w, t)) :
    fmt = .blockHdr ∧ w < 8 ∧
      ∃ cur, t = s.atCur cur ∧ (s.engine.cur ≤ 8 * s.engine.inlen → cur ≤ 8 * s.engine.inlen) := by
  unfold fetchHeader at h
  split at h
  · cases h
  next hfinal =>
  split at h
  · cases h
  next htype =>
  cases h
  obtain ⟨hb, -, -⟩ := State.readBits_ok hfinal
  obtain ⟨ht, -, -⟩ := State.readBits_ok htype
  exact ⟨rfl, by omega, _, rfl, fun hcur => State.readBits_le htype (State.readBits_le hfinal hcur)⟩

theorem fetchHeader_site {s : State} {e : Err} (h : fetchHeader s = .error e) : e.site ≠ 0 := by
  unfold fetchHeader at h
  split at h
  · next hfinal => cases h; exact State.readBits_site hfinal
  split at h
  · next htype => cases h; exact State.readBits_site htype
  · cases h

theorem fetchSymbol_ok {s t : State} {fmt fmt' : Format} {table : List (BitVec 10)} {n w : Nat}
    (h : fetchSymbol fmt table n s = .ok (fmt', w, t)) :
    fmt' = fmt ∧ w < n ∧ ∃ cur, t = s.atCur cur ∧ cur ≤ 8 * s.engine.inlen := by
  unfold fetchSymbol at h
  split at h
  · cases h
  next hsym =>
  cases h
  obtain ⟨hlt, -, hcur⟩ := State.decodeSymbol_ok hsym
  exact ⟨rfl, hlt, _, rfl, hcur⟩

theorem fetchSymbol_site {s : State} {fmt : Format} {table : List (BitVec 10)} {n : Nat} {e : Err}
    (h : fetchSymbol fmt table n s = .error e) : e.site ≠ 0 := by
  unfold fetchSymbol at h
  split at h
  · next hsym => cases h; exact State.decodeSymbol_site hsym
  · cases h

theorem zlibHeaderCheck_site {s : State} {e : Err} (h : zlibHeaderCheck s = .error e) : e.site ≠ 0 := by
  unfold zlibHeaderCheck at h
  dsimp only at h
  split_ifs at h <;> cases h <;> decide

theorem zlibHeaderCheck_ok {s : State} (h : zlibHeaderCheck s = .ok ()) : 2 ≤ s.regs.inLen.toNat := by
  unfold zlibHeaderCheck at h
  dsimp only at h
  split_ifs at h with hlen
  exact Nat.le_of_not_lt hlen

theorem fetchCmf_ok {s t : State} {fmt : Format} {w : Nat} (h : fetchCmf s = .ok (fmt, w, t)) :
    fmt = .zlibCmf ∧ w < 256 ∧ t = s ∧ 2 ≤ s.regs.inLen.toNat := by
  unfold fetchCmf at h
  split at h
  · cases h
  next hcheck =>
  cases h
  exact ⟨rfl, BitVec.isLt _, rfl, zlibHeaderCheck_ok hcheck⟩

theorem fetchCmf_site {s : State} {e : Err} (h : fetchCmf s = .error e) : e.site ≠ 0 := by
  unfold fetchCmf at h
  split at h
  · next hcheck => cases h; exact zlibHeaderCheck_site hcheck
  · cases h

theorem fetch_site {s : State} {e : Err} (h : fetch s = .error e) : e.site ≠ 0 := by
  unfold fetch at h
  split at h
  case h_3 => exact fetchCmf_site h
  case h_5 => exact fetchHeader_site h
  case h_6 | h_7 | h_8 => exact fetchSymbol_site h
  all_goals cases h

/-- Reading moves at most the input cursor, and gives a word that its code space assigns something. -/
theorem fetch_ok {s t : State} {fmt : Format} {w : Nat} (h : fetch s = .ok (fmt, w, t)) :
    w < assignedWords fmt ∧ ∃ cur, t = s.atCur cur := by
  unfold fetch at h
  split at h
  case h_2 =>
    cases h
    have := s.regs.colorType.isLt
    have := s.regs.bitDepth.isLt
    exact ⟨by simp only [assignedWords]; omega, s.engine.cur, rfl⟩
  case h_3 =>
    obtain ⟨rfl, hw, rfl, -⟩ := fetchCmf_ok h
    exact ⟨hw, t.engine.cur, rfl⟩
  case h_5 =>
    obtain ⟨rfl, hw, cur, rfl, -⟩ := fetchHeader_ok h
    exact ⟨hw, cur, rfl⟩
  case h_6 | h_7 | h_8 =>
    obtain ⟨rfl, hw, cur, rfl, -⟩ := fetchSymbol_ok h
    exact ⟨hw, cur, rfl⟩
  all_goals
    cases h
    exact ⟨by simp only [assignedWords, State.runningOp]; omega, s.engine.cur, rfl⟩

theorem rejectError_site {r : Reject} {e : Err} (h : rejectError r = some e) : e.site ≠ 0 := by
  cases r <;> cases h <;> decide

/-! ### The engine's step -/

/-- R195: a CMF byte that passes leaves the header's two bytes in the payload. -/
theorem State.Running.nextInv_zlibCmf {s : State} (h : s.Running) (hop : [1, 4].contains s.runningOp = true)
    (hfits : (s.payloadFits && s.capFits) = true) (hlen : 2 ≤ s.regs.inLen.toNat) {w : Nat} {i : Instr}
    (hdec : decode .zlibCmf w = .ok i) : NextInv (exec i s) := by
  change decodeZlibCmf w = .ok i at hdec
  unfold decodeZlibCmf at hdec
  split_ifs at hdec
  cases hdec
  exact .next ((h.setEngine _).inv_at (p := .zlibFlg) rfl hop (Bool.and_eq_true_iff.mpr ⟨hfits, decide_eq_true hlen⟩))

/-- R194: the Inflate starts two bytes into the payload. -/
theorem State.Running.nextInv_zlibFlg {s : State} (h : s.Running) (hop : [1, 4].contains s.runningOp = true)
    (hfits : (s.payloadFits && s.capFits && decide (2 ≤ s.regs.inLen.toNat)) = true) {w : Nat} {i : Instr}
    (hdec : decode .zlibFlg w = .ok i) : NextInv (exec i s) := by
  simp only [Bool.and_eq_true, decide_eq_true_eq, State.payloadFits] at hfits
  obtain ⟨⟨hin, hcap⟩, hlen⟩ := hfits
  have hop' : [1, 2, 4].contains s.runningOp = true := by simp at hop ⊢; tauto
  change decodeZlibFlg w = .ok i at hdec
  unfold decodeZlibFlg at hdec
  split_ifs at hdec
  cases hdec
  exact .next (h.inv_startInflate hop' (by omega) hcap)

/-- R88: an element read where a running command stands keeps the invariant when it runs. -/
theorem State.Running.nextInv_fetched {s t : State} (h : s.Running) (hbounds : s.inBounds = true) {fmt : Format}
    {w : Nat} {i : Instr} (hfetch : fetch s = .ok (fmt, w, t)) (hdec : decode fmt w = .ok i) : NextInv (exec i t) := by
  have hinflating (hp : s.engine.phase ∈ inflatePhases) {cur : Nat} (hcur : cur ≤ 8 * s.engine.inlen) :
      (s.atCur cur).Inflating :=
    (h.inflating hp hbounds).advance ⟨rfl, rfl⟩ ⟨rfl, rfl⟩ hcur (h.inflating hp hbounds).pos
  cases hp : s.engine.phase
  all_goals
    obtain ⟨hop, hfits⟩ := State.bounds_at hp hbounds
    simp only [fetch, hp] at hfetch
  case idle => exact absurd hop Bool.false_ne_true
  case format =>
    cases hfetch
    obtain ⟨bpp, hbpp, hexec⟩ := exec_of_decode_color s.regs.colorType.isLt hdec
    rw [hexec]
    exact h.toStoresWf.settle (h.inv_acceptFormat hbpp hop hfits)
  case zlibCmf =>
    obtain ⟨rfl, -, rfl, hlen⟩ := fetchCmf_ok hfetch
    exact h.nextInv_zlibCmf hop hfits hlen hdec
  case zlibFlg =>
    cases hfetch
    exact h.nextInv_zlibFlg hop hfits hdec
  case hdr =>
    have hp' : s.engine.phase ∈ inflatePhases := by rw [hp]; decide
    obtain ⟨rfl, -, cur, rfl, hcur⟩ := fetchHeader_ok hfetch
    exact (hinflating hp' (hcur (h.inflating hp' hbounds).cur)).nextInv_blockHdr hdec
  case codeLens =>
    obtain ⟨rfl, -, cur, rfl, hcur⟩ := fetchSymbol_ok hfetch
    exact (hinflating (by rw [hp]; decide) hcur).nextInv_clSym hdec
  case syms =>
    obtain ⟨rfl, -, cur, rfl, hcur⟩ := fetchSymbol_ok hfetch
    exact (hinflating (by rw [hp]; decide) hcur).nextInv_llSym hp hdec
  case dist =>
    obtain ⟨rfl, -, cur, rfl, hcur⟩ := fetchSymbol_ok hfetch
    exact (hinflating (by rw [hp]; decide) hcur).nextInv_dSym hdec
  case filt =>
    cases hfetch
    obtain ⟨hframe, hrow⟩ := Bool.and_eq_true_iff.mp hfits
    exact State.Filtering.nextInv_filterType { h with op := hop, frame := hframe } (of_decide_eq_true hrow) hdec
  case blendMode =>
    cases hfetch
    exact h.nextInv_blendMode hop hfits hdec
  case disposeCheck =>
    cases hfetch
    exact h.nextInv_disposeCheck hop hfits hdec
  case blendCheck =>
    cases hfetch
    obtain ⟨hchosen, hdispose⟩ := Bool.and_eq_true_iff.mp hfits
    obtain ⟨hindexed, hmode⟩ := Bool.and_eq_true_iff.mp hchosen
    exact h.nextInv_blendCheck (by simpa [Phase.ops] using hop) hindexed hmode (of_decide_eq_true hdispose) hdec
  case disposeRestore =>
    cases hfetch
    exact State.Compositing.nextInv_disposeRestore { h with op := by simpa [Phase.ops] using hop, passes := hfits } hdec
  case disposeSnap =>
    cases hfetch
    exact State.Compositing.nextInv_disposeSnap { h with op := by simpa [Phase.ops] using hop, passes := hfits } hdec
  case paint =>
    cases hfetch
    exact State.Compositing.nextInv_blendPaint { h with op := by simpa [Phase.ops] using hop, passes := hfits } hdec
  case tblSel =>
    cases hfetch
    exact h.nextInv_tblSel hdec

theorem State.Running.nextInv_engineStep {s : State} (h : s.Running) (hbounds : s.inBounds = true) :
    NextInv (engineStep s) := by
  rw [engineStep, if_pos hbounds]
  split
  · next herr => exact .next (h.toStoresWf.inv_raise (fetch_site herr))
  next hfetch =>
  split
  · next hdec => exact h.nextInv_fetched hbounds hfetch hdec
  split
  · next hreject =>
    obtain ⟨-, cur, rfl⟩ := fetch_ok hfetch
    exact .next ((h.setEngine _).toStoresWf.inv_raise (rejectError_site hreject))
  · exact .fault _

/-! ### The command words (R250 to R263) -/

theorem checkIn_cases (s : State) :
    (checkIn s = .ok () ∧ s.payloadFits = true) ∨ checkIn s = .error (param 0x0A01) := by
  unfold checkIn State.payloadFits
  split_ifs with hin
  · exact .inr rfl
  · exact .inl ⟨rfl, decide_eq_true (Nat.le_of_not_lt hin)⟩

theorem checkInflate_cases (s : State) :
    (checkInflate s = .ok () ∧ s.payloadFits = true ∧ s.regs.outSize.toNat ≤ s.params.outCap) ∨
      ∃ e, checkInflate s = .error e ∧ e.site ≠ 0 := by
  unfold checkInflate
  obtain ⟨hok, hin⟩ | herr := checkIn_cases s
  · rw [hok]
    dsimp only
    split_ifs with hout
    · exact .inr ⟨_, rfl, by decide⟩
    · exact .inl ⟨rfl, hin, Nat.le_of_not_lt hout⟩
  · rw [herr]
    exact .inr ⟨_, rfl, by decide⟩

/-- R251, R252: OUT_SIZE, checked against OUT, is a capacity that fits it. -/
theorem State.capFits_of_outSize {s : State} (hop : s.runningOp ≠ 4) (hcap : s.engine.cap = s.regs.outSize.toNat)
    (hout : s.regs.outSize.toNat ≤ s.params.outCap) : s.capFits = true := by
  simp [State.capFits, hop, hcap, hout]

namespace State.Running

variable {s : State} (h : s.Running)
include h

theorem inv_bodyInflateZlib (hop : s.runningOp = 1) : BodyInv (bodyInflateZlib s) := by
  unfold bodyInflateZlib
  obtain ⟨hok, hin, hout⟩ | ⟨e, herr, hsite⟩ := checkInflate_cases s
  · rw [hok]
    have hcap := State.capFits_of_outSize (s := s.setEngine { s.engine with cap := s.regs.outSize.toNat })
      (by simp [runningOp] at hop ⊢; omega) rfl hout
    exact .ok ((h.setEngine _).inv_at (p := .zlibCmf) rfl (State.op_mem hop rfl) (Bool.and_eq_true_iff.mpr ⟨hin, hcap⟩))
  · rw [herr]
    exact .error hsite

theorem inv_bodyInflateRaw (hop : s.runningOp = 2) : BodyInv (bodyInflateRaw s) := by
  unfold bodyInflateRaw
  obtain ⟨hok, hin, hout⟩ | ⟨e, herr, hsite⟩ := checkInflate_cases s
  · rw [hok]
    have hcap := State.capFits_of_outSize (s := s.setEngine { s.engine with cap := s.regs.outSize.toNat })
      (by simp [runningOp] at hop ⊢; omega) rfl hout
    have hrun := h.setEngine { s.engine with cap := s.regs.outSize.toNat }
    exact .ok (hrun.inv_startInflate (State.op_mem hop rfl) (of_decide_eq_true hin) hcap)
  · rw [herr]
    exact .error hsite

theorem inv_bodyDecodeFrame (hop : s.runningOp = 4) : BodyInv (bodyDecodeFrame s) := by
  unfold bodyDecodeFrame
  obtain ⟨hok, hin⟩ | herr := checkIn_cases s
  · rw [hok]
    exact .ok ((h.setEngine _).inv_at (p := .format) rfl (State.op_mem hop rfl) (Bool.or_eq_true_iff.mpr (.inr hin)))
  · rw [herr]
    exact .param (by decide)

/-- R253, R255: a command that needs no precheck before its format's. -/
theorem inv_goto_format (hop : s.runningOp = 3 ∨ s.runningOp = 5) : (s.goto .format).Inv := by
  refine (h.setEngine _).inv_at (p := .format) rfl ?_ ?_
  · obtain hop | hop := hop <;> exact State.op_mem hop rfl
  · refine Bool.or_eq_true_iff.mpr (.inl ?_)
    show (s.runningOp != 4) = true
    obtain hop | hop := hop <;> rw [hop] <;> rfl

theorem inv_goto_tblSel (hop : s.runningOp = 6) : (s.goto .tblSel).Inv :=
  (h.setEngine _).inv_at (p := .tblSel) rfl (State.op_mem hop rfl) rfl

/-- R257 -/
theorem inv_clearPrev : (clearPrev s).finish.Inv :=
  State.Running.finish (State.Running.setRegs h rfl (Nat.zero_le 2))

end State.Running

/-! ### The idle engine's registers -/

/-- With no command running, the registers may take any values that keep ERR_SITE and a PREV_DISPOSE of the rule. -/
theorem State.Inv.setRegs_idle {s : State} (h : s.Inv) (hidle : s.status.busy = false) {r : Regs}
    (hsite : r.errSite = s.regs.errSite) (hprev : r.prevDispose.toNat ≤ 2) : (s.setRegs r).Inv := by
  obtain ⟨hdone, herror, hexcl, hcode, hs⟩ := h.status
  exact
    { h.stores with
      prev := hprev
      status := ⟨hdone, herror, hexcl, hcode, by simpa [hsite] using hs⟩
      engine := ⟨fun hbusy => absurd (hidle.symm.trans hbusy) Bool.false_ne_true, h.engine.2⟩ }

/-- R250: a command starts, or its word is ignored, or only its OP is stored. -/
theorem State.Inv.nextInv_startCommand {s : State} (h : s.Inv) {op : BitVec 4} {body : State → Except Err State}
    (hbody : ∀ t : State, t.Running → t.runningOp = op.toNat → BodyInv (body t)) :
    NextInv (startCommand op body s) := by
  unfold startCommand
  split
  · exact .next h
  next hbusy =>
  rw [Bool.not_eq_true] at hbusy
  have hstored : (s.setRegs { s.regs with op := op }).Inv := h.setRegs_idle hbusy rfl h.prev
  dsimp only
  split
  · exact .next hstored
  next herror =>
  obtain ⟨-, -, -, hcode, hsite⟩ := h.status
  have hrun : ((s.setRegs { s.regs with op := op }).setStatus s.status.started).Running :=
    { hstored.stores with
      status := ⟨fun ⟨_, hd⟩ => Bool.false_ne_true hd, fun ⟨_, he⟩ => herror he,
        fun ⟨hd, _⟩ => Bool.false_ne_true hd, hcode, hsite⟩
      busy := rfl }
  exact hrun.toStoresWf.settle (hbody _ hrun rfl)

/-- R259 -/
theorem State.Inv.nextInv_execNop {s : State} (h : s.Inv) : NextInv (execNop s) := by
  unfold execNop
  split
  · exact .next h
  · next hbusy => exact .next (h.setRegs_idle (Bool.not_eq_true _ ▸ hbusy) rfl h.prev)

/-- R24, R250: a command word keeps the invariant, whatever runs. -/
theorem State.Inv.nextInv_cmd {s : State} (h : s.Inv) {w : Nat} {i : Instr} (hdec : decode .cmd w = .ok i) :
    NextInv (exec i s) := by
  change decodeCmd w = .ok i at hdec
  unfold decodeCmd at hdec
  split at hdec
  · cases hdec
  split at hdec <;> cases hdec
  · exact h.nextInv_execNop
  · exact h.nextInv_startCommand fun t ht hop => ht.inv_bodyInflateZlib hop
  · exact h.nextInv_startCommand fun t ht hop => ht.inv_bodyInflateRaw hop
  · exact h.nextInv_startCommand (op := 3) fun t ht hop => .ok (ht.inv_goto_format (.inl hop))
  · exact h.nextInv_startCommand fun t ht hop => ht.inv_bodyDecodeFrame hop
  · exact h.nextInv_startCommand (op := 5) fun t ht hop => .ok (ht.inv_goto_format (.inr hop))
  · exact h.nextInv_startCommand (op := 6) fun t ht hop => .ok (ht.inv_goto_tblSel hop)
  · exact h.nextInv_startCommand fun t ht _ => .ok ht.inv_clearPrev
  · exact h.nextInv_startCommand fun _ _ _ => .param (by decide)

/-! ### The host's accesses (R70 to R76, R320) -/

/-- What a host's access can come to: nothing, a read's data, a write of a memory's backed bytes or of a register, or
the effect of CTRL or CMD. -/
inductive HostEffect (s : State) : Host.Outcome State Fault Refusal → Prop where
  | refused (r : Refusal) : HostEffect s (.refused r)
  | ignored : HostEffect s (.next s)
  | read (x : Word) : HostEffect s (.next (s.setRdata x))
  | memory (id : MemId) (a n : Nat) (v : Word) (hcap : a + n ≤ capOf s.params id) :
    HostEffect s (.next (s.writeBytes id a n v))
  | store (r : Reg) (v : Word) (hidle : s.status.busy = false) : HostEffect s (.next (s.setRegs (s.regs.store v r)))
  | ctrl (v : Word) : HostEffect s (.next (writeCtrl v s))
  | cmd (v : Word) : HostEffect s (writeCmd v s)

/-- R87: a read is refused or returns its data. -/
theorem read_cases (w : Width) (addr : Word) (s : State) :
    (∃ r, hostAccess (.read w addr) s = .refused r) ∨ ∃ x, hostAccess (.read w addr) s = .next (s.setRdata x) := by
  simp only [hostAccess, busyRead, idleRead]
  split_ifs
  · split
    case h_4 => exact .inl ⟨_, rfl⟩
    all_goals exact .inr ⟨_, rfl⟩
  · exact .inl ⟨_, rfl⟩
  · split
    · exact .inl ⟨_, rfl⟩
    all_goals
      split
      · exact .inr ⟨_, rfl⟩
      · exact .inl ⟨_, rfl⟩

theorem hostEffect_writeReg {s : State} (hidle : s.status.busy = false) (r : Reg) (v : Word) :
    HostEffect s (writeReg r v s) := by
  unfold writeReg
  split
  · exact .cmd v
  · exact .ctrl v
  · exact .store r v hidle

theorem hostEffect_idleWrite {s : State} (hidle : s.status.busy = false) (w : Width) (addr v : Word) :
    HostEffect s (idleWrite w addr v s) := by
  unfold idleWrite
  split
  · exact .refused _
  all_goals split
  · split
    · exact hostEffect_writeReg hidle _ v
    · exact .ignored
  · exact .refused _
  · exact .ignored
  · exact .refused _
  · next hacc => exact .memory _ _ _ v (of_decide_eq_true (Bool.and_eq_true_iff.mp hacc).2)
  · exact .refused _

theorem hostEffect_busyWrite (w : Width) (addr v : Word) (s : State) : HostEffect s (busyWrite w addr v s) := by
  unfold busyWrite
  split
  · split
    · exact .ctrl v
    · exact .cmd v
    · exact .refused _
  · exact .refused _

theorem hostEffect_hostAccess (op : BusOp) (s : State) : HostEffect s (hostAccess op s) := by
  cases op with
  | read w addr =>
    obtain ⟨r, heq⟩ | ⟨x, heq⟩ := read_cases w addr s <;> rw [heq]
    · exact .refused r
    · exact .read x
  | write w addr v =>
    simp only [hostAccess]
    split
    · exact hostEffect_busyWrite w addr v s
    · next hbusy => exact hostEffect_idleWrite (Bool.not_eq_true _ ▸ hbusy) w addr v
  | wait => exact .read _

theorem Regs.store_errSite (r : Regs) (v : Word) (x : Reg) : (r.store v x).errSite = r.errSite := by cases x <;> rfl

theorem Regs.store_prevDispose (r : Regs) (v : Word) (x : Reg) : (r.store v x).prevDispose = r.prevDispose := by
  cases x <;> rfl

namespace State.Inv

variable {s : State} (h : s.Inv)
include h

theorem setRdata (x : Word) : (s.setRdata x).Inv := { h with }

theorem setBus (x : List BusReq) : (s.setBus x).Inv := { h with }

theorem store_idle (hidle : s.status.busy = false) (v : Word) (r : Reg) : (s.setRegs (s.regs.store v r)).Inv :=
  h.setRegs_idle hidle (s.regs.store_errSite v r) (by rw [Regs.store_prevDispose]; exact h.prev)

/-- R76, R88: a write of the host's within a memory's backed bytes. -/
theorem writeBytes {id : MemId} {a n : Nat} (hcap : a + n ≤ capOf s.params id) (v : Word) :
    (s.writeBytes id a n v).Inv :=
  { h with mems := State.memsWf_fill h.mems hcap, engine := h.engine }

theorem writeCtrl (v : Word) : (writeCtrl v s).Inv := by
  unfold Machine.writeCtrl
  split
  · exact h.stores.inv_softReset
  split
  · exact h
  · next hbusy => exact h.store_idle (Bool.not_eq_true _ ▸ hbusy) v .ctrl

theorem nextInv_writeCmd (v : Word) : NextInv (writeCmd v s) := by
  unfold writeCmd
  split
  · next hdec => exact h.nextInv_cmd hdec
  · exact .fault _

theorem nextInv_hostEffect {o : Host.Outcome State Fault Refusal} (ho : HostEffect s o) : NextInv o := by
  cases ho with
  | refused r => exact .refused r
  | ignored => exact .next h
  | read x => exact .next (h.setRdata x)
  | memory id a n v hcap => exact .next (h.writeBytes hcap v)
  | store r v hidle => exact .next (h.store_idle hidle v r)
  | ctrl v => exact .next (h.writeCtrl v)
  | cmd v => exact h.nextInv_writeCmd v

theorem nextInv_engineStep (hbusy : s.status.busy = true) : NextInv (engineStep s) :=
  (h.running hbusy).nextInv_engineStep (h.engine.1 hbusy)

end State.Inv

/-! ### One step (R20, R88) -/

theorem step_busy_nil {s : State} (hbusy : s.status.busy = true) (hbus : s.bus = []) : step s = engineStep s := by
  simp [step, hbusy, hbus]

/-- A step holds the state, runs the engine's next element, or performs the host's oldest access; the state it does so
from differs at most in the queue. -/
theorem step_cases (s : State) :
    step s = .next s ∨ (s.status.busy = true ∧ ∃ bus, step s = engineStep (s.setBus bus)) ∨
      ∃ op rest, s.bus ≠ [] ∧ step s = hostAccess op (s.setBus rest) := by
  cases hbus : s.bus with
  | nil =>
    cases hbusy : s.status.busy with
    | false => exact .inl (step_idle_nil hbusy hbus)
    | true => exact .inr (.inl ⟨rfl, s.bus, step_busy_nil hbusy hbus⟩)
  | cons r rest =>
    cases hbusy : s.status.busy with
    | false => exact .inr (.inr ⟨_, _, by simp, step_idle_cons hbusy hbus⟩)
    | true =>
      obtain ⟨n, op⟩ := r
      cases n with
      | succ n => exact .inr (.inl ⟨rfl, _, step_busy_succ hbusy hbus⟩)
      | zero =>
        by_cases hwait : op = .wait
        · subst hwait
          exact .inr (.inl ⟨rfl, s.bus, step_busy_wait hbusy hbus⟩)
        · exact .inr (.inr ⟨_, _, by simp, step_busy_zero hwait hbusy hbus⟩)

/-- Settles O16: the engine's elements by where they are read, the host's accesses by what they touch. -/
theorem everyStepKeepsTheInvariant : Obligations.EveryStepKeepsTheInvariant := by
  intro s t h hstep
  obtain heq | ⟨hbusy, bus, heq⟩ | ⟨op, rest, -, heq⟩ := step_cases s
  · rw [heq] at hstep
    cases hstep
    exact h
  · exact (h.setBus bus).nextInv_engineStep hbusy t (heq ▸ hstep)
  · exact (h.setBus rest).nextInv_hostEffect (hostEffect_hostAccess op _) t (heq ▸ hstep)

/-! ### No step faults (R88, R149) -/

theorem settle_next (s : State) (body : Except Err State) : ∃ t, settle s body = .next t := by
  cases body <;> exact ⟨_, rfl⟩

theorem startCommand_next (op : BitVec 4) (body : State → Except Err State) (s : State) :
    ∃ t, startCommand op body s = .next t := by
  unfold startCommand
  split
  · exact ⟨_, rfl⟩
  dsimp only
  split
  · exact ⟨_, rfl⟩
  · exact settle_next _ _

/-- Every instruction has a meaning in every state. -/
theorem exec_next (i : Instr) (s : State) : ∃ t, exec i s = .next t := by
  cases i
  case nop =>
    simp only [exec, execNop]
    split <;> exact ⟨_, rfl⟩
  case inflateZlib | inflateRaw | defilter | decodeFrame | composite | buildTable | creset | cmdReserved =>
    simp only [exec, execInflateZlib, execInflateRaw, execDefilter, execDecodeFrame, execComposite, execBuildTable,
      execCreset, execCmdReserved]
    exact startCommand_next _ _ _
  case len sym => exact settle_next s (bodyLen sym s)
  case disposeNone u | disposeBackground u | disposePrevious u | disposeInvalid u v => cases u <;> exact ⟨_, rfl⟩
  case blendInvalid u v => cases u <;> exact ⟨_, rfl⟩
  case blendSource u | blendOver u =>
    cases u
    · exact settle_next _ _
    · exact ⟨_, rfl⟩
  case fixed | zlibCmfOk | zlibFlgFdictClear | filtNone | filtSub | filtUp | filtAverage | filtPaeth |
      blendModeSingleDiv | blendModePerTerm | blendModeRefTrunc | btypeReserved | llInvalid | distInvalid |
      filtInvalid | blendModeReserved | tblReserved =>
    exact ⟨_, rfl⟩
  all_goals exact settle_next _ _

/-- R88, R149: an element read where a running command stands is an instruction, or raises an error of the spec. -/
theorem engineStep_next {s : State} (hbounds : s.inBounds = true) : ∃ t, engineStep s = .next t := by
  rw [engineStep, if_pos hbounds]
  split
  · exact ⟨_, rfl⟩
  next hfetch =>
  split
  · exact exec_next _ _
  next r hdec =>
  split
  · exact ⟨_, rfl⟩
  · next hnone =>
    obtain ⟨hw, -⟩ := fetch_ok hfetch
    cases r
    case noCode => exact absurd hdec (decode_ne_noCode hw)
    all_goals cases hnone

theorem writeCmd_next (v : Word) (s : State) : ∃ t, writeCmd v s = .next t := by
  obtain ⟨i, hdec⟩ := decode_cmd_ok v.isLt
  rw [writeCmd, hdec]
  exact exec_next i s

/-! A host's access gives a next state or a refusal. -/

theorem ne_fault_of_next {o : Host.Outcome State Fault Refusal} (h : ∃ t, o = .next t) (f : Fault) : o ≠ .fault f := by
  obtain ⟨t, rfl⟩ := h
  exact fun heq => nomatch heq

theorem HostEffect.ne_fault {s : State} {o : Host.Outcome State Fault Refusal} (ho : HostEffect s o) (f : Fault) :
    o ≠ .fault f := by
  cases ho with
  | cmd v => exact ne_fault_of_next (writeCmd_next v s) f
  | refused | ignored | read | memory | store | ctrl => exact fun heq => nomatch heq

/-- Settles O17: the engine's guards hold wherever a command runs, and no access of the host's faults. -/
theorem noStepFaults : Obligations.NoStepFaults := by
  intro s h
  have hengine (bus : List BusReq) (hbusy : s.status.busy = true) : ∃ t, engineStep (s.setBus bus) = .next t :=
    engineStep_next ((h.setBus bus).engine.1 hbusy)
  obtain heq | ⟨hbusy, bus, heq⟩ | ⟨op, rest, hbus, heq⟩ := step_cases s
  · exact ⟨fun f => ne_fault_of_next ⟨s, heq⟩ f, fun _ => ⟨s, heq⟩⟩
  · obtain ⟨t, ht⟩ := hengine bus hbusy
    exact ⟨fun f => ne_fault_of_next ⟨t, heq.trans ht⟩ f, fun _ => ⟨t, heq.trans ht⟩⟩
  · exact ⟨fun f hf => (hostEffect_hostAccess op _).ne_fault f (heq.symm.trans hf), fun hnil => absurd hnil hbus⟩

end Sys2Proof.Machine
end

section
/-! PROOFS. The fields of the bit reader, and the host's windows: where an offset lies, what its accesses do. -/

namespace Sys2Proof.Machine

open Sys2Proof.Claims

/-! ### Fields (R78, R141) -/

/-- R78: the first bit is the least significant; the bits after it are a field of their own. -/
theorem State.bitsAt_succ (s : State) (k w : Nat) : s.bitsAt k (w + 1) = s.streamBit k + 2 * s.bitsAt (k + 1) w := by
  unfold State.bitsAt
  rw [List.range_succ_eq_map, List.map_cons, List.sum_cons, List.map_map, ← List.sum_map_mul_left]
  simp only [Nat.add_zero, Nat.pow_zero, Nat.mul_one]
  congr 3
  funext i
  simp only [Function.comp_apply, Nat.succ_eq_add_one, pow_succ]
  rw [show k + (i + 1) = k + 1 + i by omega]
  ring

/-- Settles O11, by induction on the width: a bit is read where one is left, then the rest of the field. -/
theorem fieldsAreReadLeastSignificantBitFirst : Obligations.FieldsAreReadLeastSignificantBitFirst := by
  intro s w cur
  induction w generalizing cur with
  | zero => simp [State.readBits, State.bitsAt]
  | succ w ih =>
    rw [State.readBits]
    obtain ⟨hend, hread⟩ | ⟨hin, hread⟩ := s.bitRead_cases 0x0201 cur <;> rw [hread]
    · rw [if_neg (by omega)]
    · dsimp only
      rw [ih (cur + 1)]
      by_cases hfits : w = 0 ∨ cur + 1 + w ≤ 8 * s.engine.inlen
      · rw [if_pos hfits, if_pos (by omega), s.bitsAt_succ]
        simp only [Nat.add_assoc, Nat.add_comm 1 w]
      · rw [if_neg hfits, if_neg (by omega)]

/-! ### Where an offset lies (R70 to R74) -/

/-- R70: the offset of a bus address is taken back from `P_BASE`. -/
theorem busOffset_add (p : Params) {off : Nat} (h : off < 2 ^ 32) :
    busOffset p (p.base + BitVec.ofNat 32 off) = off := by
  rw [busOffset, add_sub_cancel_left, BitVec.toNat_ofNat, Nat.mod_eq_of_lt h]

theorem mem_windows_iff {p : Params} {id : MemId} {first cap : Nat} :
    (id, first, cap) ∈ windows p ↔ first = id.window ∧ cap = capOf p id := by
  cases id <;> simp [windows, MemId.window, capOf]

theorem backs_iff {p : Params} {id : MemId} {off : Nat} :
    backs p id off = true ↔ id.window ≤ off ∧ off < id.window + capOf p id := by
  simp [backs]

/-- R8, R70: the most bytes a memory's window can back. -/
def MemId.span : MemId → Nat
  | .inp | .out | .canvas | .snap => 2 ^ 24
  | .pal => 768
  | .trns => 256

theorem capOf_le_span {p : Params} (hp : p.wf) (id : MemId) : capOf p id ≤ id.span := by
  obtain ⟨-, hin, -, hout, -, hcanvas, -, -, hsnap, -⟩ := hp
  cases id
  case inp => exact hin
  case out => exact hout
  case canvas => exact hcanvas
  case snap => exact hsnap
  case pal | trns => exact le_rfl

theorem MemId.windows_apart {id id' : MemId} (h : id ≠ id') :
    id.window + id.span ≤ id'.window ∨ id'.window + id'.span ≤ id.window := by
  cases id <;> cases id' <;> revert h <;> decide

/-- The windows lie above the registers, beside the table window, and below the top of the bus. -/
theorem MemId.window_range (id : MemId) : 0x100 ≤ id.window ∧
    (id.window + id.span ≤ 0x2000 ∨ 0x2900 ≤ id.window) ∧ id.window + id.span < 2 ^ 32 := by
  cases id <;> decide

/-- R70, R8: no two memories back one offset. -/
theorem backs_unique {p : Params} (hp : p.wf) {id id' : MemId} {off : Nat} (h : backs p id off = true)
    (h' : backs p id' off = true) : id' = id := by
  by_contra hne
  rw [backs_iff] at h h'
  have hcap := capOf_le_span hp id
  have hcap' := capOf_le_span hp id'
  have hapart := MemId.windows_apart hne
  omega

theorem locate_reg (p : Params) {off : Nat} (h : off < 0x100) : locate p off = some (.reg off) := if_pos h

theorem locate_table (p : Params) {off : Nat} (h : 0x2000 ≤ off ∧ off < 0x2900) :
    locate p off = some (.table (off - 0x2000)) := by
  rw [locate, if_neg (by omega), if_pos h]

theorem locate_mem {p : Params} (hp : p.wf) {id : MemId} {off : Nat} (h : backs p id off = true) :
    locate p off = some (.mem id (off - id.window)) := by
  have hsome : ([MemId.pal, .trns, .inp, .out, .canvas, .snap].find? (fun id => backs p id off)).isSome :=
    List.find?_isSome.mpr ⟨id, by cases id <;> decide, h⟩
  obtain ⟨id', hfind⟩ := Option.isSome_iff_exists.mp hsome
  have hid : id' = id := backs_unique hp h (List.find?_some (p := fun id => backs p id off) hfind)
  have hcap := capOf_le_span hp id
  have hrange := id.window_range
  rw [backs_iff] at h
  rw [locate, if_neg (by omega), if_neg (by omega), hfind, hid]

/-- R74: an offset that no row of the map backs. -/
theorem locate_unbacked {p : Params} {off : Nat} (h : ¬ Backed p off) : locate p off = none := by
  obtain ⟨hreg, htable, hmem⟩ : ¬ off < 0x100 ∧ ¬ (0x2000 ≤ off ∧ off < 0x2900) ∧ _ := by
    simpa only [Backed, not_or] using h
  have hfind : [MemId.pal, .trns, .inp, .out, .canvas, .snap].find? (fun id => backs p id off) = none := by
    refine List.find?_eq_none.mpr fun id _ hback => hmem ⟨id, _, _, mem_windows_iff.mpr ⟨rfl, rfl⟩, ?_⟩
    exact backs_iff.mp hback
  rw [locate, if_neg hreg, if_neg htable, hfind]

theorem regAt_none {off : Nat} (h : 0x070 ≤ off) : regAt off = none := by
  refine List.find?_eq_none.mpr fun r _ heq => ?_
  have hle : r.offset ≤ 0x06C := by cases r <;> decide
  have := eq_of_beq heq
  omega

/-! ### Idle accesses, by place (R72 to R76) -/

section

variable {s : State} (hidle : s.status.busy = false) {addr : Word}
include hidle

theorem hostAccess_read_idle (w : Width) : hostAccess (.read w addr) s = idleRead w addr s := by
  simp [hostAccess, hidle]

theorem hostAccess_write_idle (w : Width) (v : Word) : hostAccess (.write w addr v) s = idleWrite w addr v s := by
  simp [hostAccess, hidle]

/-- R74 -/
theorem access_unmapped (hloc : locate s.params (busOffset s.params addr) = none) (w : Width) (v : Word) :
    hostAccess (.read w addr) s = .refused .unmapped ∧ hostAccess (.write w addr v) s = .refused .unmapped := by
  rw [hostAccess_read_idle hidle, hostAccess_write_idle hidle, idleRead, idleWrite, hloc]
  exact ⟨rfl, rfl⟩

/-- R75 -/
theorem access_reg_refused {off : Nat} (hloc : locate s.params (busOffset s.params addr) = some (.reg off)) {w : Width}
    (hacc : wordAccess w off = false) (v : Word) :
    hostAccess (.read w addr) s = .refused .badAccess ∧ hostAccess (.write w addr v) s = .refused .badAccess := by
  rw [hostAccess_read_idle hidle, hostAccess_write_idle hidle, idleRead, idleWrite, hloc]
  simp [hacc]

theorem access_table_refused {off : Nat} (hloc : locate s.params (busOffset s.params addr) = some (.table off))
    {w : Width} (hacc : wordAccess w off = false) (v : Word) :
    hostAccess (.read w addr) s = .refused .badAccess ∧ hostAccess (.write w addr v) s = .refused .badAccess := by
  rw [hostAccess_read_idle hidle, hostAccess_write_idle hidle, idleRead, idleWrite, hloc]
  simp [hacc]

/-- R76 -/
theorem access_mem_refused {id : MemId} {a : Nat} (hloc : locate s.params (busOffset s.params addr) = some (.mem id a))
    {w : Width} (hacc : memAccess s.params id w a = false) (v : Word) :
    hostAccess (.read w addr) s = .refused .badAccess ∧ hostAccess (.write w addr v) s = .refused .badAccess := by
  rw [hostAccess_read_idle hidle, hostAccess_write_idle hidle, idleRead, idleWrite, hloc]
  simp [hacc]

/-- R22: the register offsets that hold no register. -/
theorem access_reg_reserved {off : Nat} (hloc : locate s.params (busOffset s.params addr) = some (.reg off))
    (hacc : wordAccess .b4 off = true) (hnone : regAt off = none) (v : Word) :
    hostAccess (.read .b4 addr) s = .next (s.setRdata 0) ∧ hostAccess (.write .b4 addr v) s = .next s := by
  rw [hostAccess_read_idle hidle, hostAccess_write_idle hidle, idleRead, idleWrite, hloc]
  simp [hacc, hnone]

/-- R72 -/
theorem access_table {off : Nat} (hloc : locate s.params (busOffset s.params addr) = some (.table off))
    (hacc : wordAccess .b4 off = true) (v : Word) :
    hostAccess (.read .b4 addr) s = .next (s.setRdata (s.readTable off)) ∧
      hostAccess (.write .b4 addr v) s = .next s := by
  rw [hostAccess_read_idle hidle, hostAccess_write_idle hidle, idleRead, idleWrite, hloc]
  simp [hacc]

/-- R76 -/
theorem access_mem {id : MemId} {a : Nat} (hloc : locate s.params (busOffset s.params addr) = some (.mem id a))
    {w : Width} (hacc : memAccess s.params id w a = true) (v : Word) :
    hostAccess (.read w addr) s = .next (s.setRdata (BitVec.ofNat 32 (s.readBytes id a w.bytes))) ∧
      hostAccess (.write w addr v) s = .next (s.writeBytes id a w.bytes v) := by
  rw [hostAccess_read_idle hidle, hostAccess_write_idle hidle, idleRead, idleWrite, hloc]
  simp [hacc]

end

theorem wordAccess_iff {w : Width} {off : Nat} : wordAccess w off = true ↔ w = .b4 ∧ off % 4 = 0 := by
  simp [wordAccess]

theorem memAccess_iff {p : Params} {id : MemId} {w : Width} {a : Nat} :
    memAccess p id w a = true ↔ a % w.bytes = 0 ∧ a + w.bytes ≤ capOf p id := by
  simp [memAccess]

/-- A window starts on a boundary of every access width. -/
theorem MemId.sub_window_mod {id : MemId} {off : Nat} (h : id.window ≤ off) (w : Width) :
    (off - id.window) % w.bytes = off % w.bytes := by
  cases id <;> cases w <;> simp only [MemId.window, Width.bytes] at h ⊢ <;> omega

/-- Settles O31, place by place. -/
theorem unbackedAndMisalignedAccessesAreRefused : Obligations.UnbackedAndMisalignedAccessesAreRefused := by
  intro s w a v hp hidle
  dsimp only
  refine ⟨fun hback => ?_, fun hplace hbad => ?_, fun id first cap hwin hfirst hlast hbad => ?_,
    fun hlo hhi halign hw => ?_⟩
  · exact access_unmapped hidle (locate_unbacked hback) w v
  · obtain hreg | htable := hplace
    · refine access_reg_refused hidle (locate_reg _ hreg) ?_ v
      rw [Bool.eq_false_iff, ne_eq, wordAccess_iff]
      tauto
    · refine access_table_refused hidle (locate_table _ htable) ?_ v
      rw [Bool.eq_false_iff, ne_eq, wordAccess_iff]
      rintro ⟨hw, halign⟩
      obtain hne | hmis := hbad
      · exact hne hw
      · omega
  · obtain ⟨rfl, rfl⟩ := mem_windows_iff.mp hwin
    refine access_mem_refused hidle (locate_mem hp (backs_iff.mpr ⟨hfirst, hlast⟩)) ?_ v
    rw [Bool.eq_false_iff, ne_eq, memAccess_iff, MemId.sub_window_mod hfirst]
    omega
  · subst hw
    exact access_reg_reserved hidle (locate_reg _ hhi) (wordAccess_iff.mpr ⟨rfl, halign⟩) (regAt_none hlo) v

/-! ### The table window (R72) -/

/-- R45: the TBL_SEL value that selects a table RAM. -/
def TableId.sel : TableId → Nat
  | .tll => 0
  | .td => 1
  | .tcl => 2

/-- R72: the entry of the RAM TBL_SEL selects, 0 beyond it. -/
theorem State.readTable_entry {s : State} (hwf : s.tablesWf) {id : TableId} {e : Nat}
    (hsel : s.regs.tblSel.toNat = id.sel) :
    s.readTable (4 * e) = if e < 2 * id.nmax then ((s.tables.get id).entries.getD e 0).setWidth 32 else 0 := by
  have hread : s.readTable (4 * e) = ((s.tables.get id).entries.getD e 0).setWidth 32 := by
    unfold State.readTable
    rw [hsel]
    cases id <;> simp [TableId.sel, Tables.get]
  rw [hread]
  split_ifs with hlt
  · rfl
  · rw [List.getD_eq_default _ _ (by rw [hwf]; omega)]
    rfl

theorem State.readTable_reserved {s : State} (hsel : s.regs.tblSel.toNat = 3) (off : Nat) : s.readTable off = 0 := by
  simp [State.readTable, hsel]

/-- Settles O28: the address lies in the table window, whose reads give the selected RAM's entry. -/
theorem theTableWindowShowsTheSelectedRam : Obligations.TheTableWindowShowsTheSelectedRam := by
  intro s e hwf hidle he
  have hloc : locate s.params (busOffset s.params (s.params.base + BitVec.ofNat 32 (0x2000 + 4 * e))) =
      some (.table (4 * e)) := by
    rw [busOffset_add _ (by omega), locate_table _ (by omega), Nat.add_sub_cancel_left]
  have hacc (v : Word) := access_table hidle hloc (wordAccess_iff.mpr ⟨rfl, by omega⟩) v
  refine ⟨fun id hsel => ?_, fun hsel => ?_, fun v => (hacc v).2⟩
  · rw [← State.readTable_entry hwf (id := id) (by cases id <;> exact hsel)]
    exact (hacc 0).1
  · rw [← State.readTable_reserved hsel (4 * e)]
    exact (hacc 0).1

/-! ### The memory windows (R71, R73, R76) -/

/-- R76: what a read of `n` bytes gives where byte `k` holds bits [8(j + k) + 7 : 8(j + k)] of `v`. -/
theorem State.readBytes_of_bytes {s : State} {id : MemId} {a j n : Nat} {v : Word}
    (h : ∀ k < n, s.rd id (a + k) = v.extractLsb' (8 * (j + k)) 8) :
    s.readBytes id a n = v.toNat / 256 ^ j % 256 ^ n := by
  induction n generalizing a j with
  | zero => simp [State.readBytes, Nat.mod_one]
  | succ n ih =>
    have hfirst : (s.rd id a).toNat = v.toNat / 256 ^ j % 256 := by
      have := h 0 (Nat.zero_lt_succ n)
      rw [Nat.add_zero, Nat.add_zero] at this
      rw [this, BitVec.extractLsb'_toNat, Nat.shiftRight_eq_div_pow, pow_mul]
      rfl
    have hrest : s.readBytes id (a + 1) n = v.toNat / 256 ^ (j + 1) % 256 ^ n :=
      ih fun k hk => by
        rw [show a + 1 + k = a + (k + 1) by omega, h (k + 1) (by omega), show j + 1 + k = j + (k + 1) by omega]
    rw [State.readBytes, hfirst, hrest, pow_succ 256 j, ← Nat.div_div_eq_div_mul, pow_succ' 256 n, Nat.mod_mul]

theorem State.rd_writeBytes (s : State) (id id' : MemId) (a n : Nat) (v : Word) (a' : Nat) :
    (s.writeBytes id a n v).rd id' a' =
      if id' = id ∧ a ≤ a' ∧ a' < a + n then v.extractLsb' (8 * (a' - a)) 8 else s.rd id' a' := by
  rw [State.writeBytes, State.rd_setMem, Mem.read_fill]
  by_cases hid : id' = id
  · subst hid
    simp [State.rd]
  · simp [hid]

/-- Settles O27: the address lies in the memory's window; a write stores its bytes there, which a read gathers again. -/
theorem memoryWindowsAreLittleEndian : Obligations.MemoryWindowsAreLittleEndian := by
  intro s id first cap w a v hp hidle hwin halign hcap
  obtain ⟨rfl, rfl⟩ := mem_windows_iff.mp hwin
  have hbytes : 1 ≤ w.bytes := by cases w <;> decide
  have hspan := capOf_le_span hp id
  have hrange := id.window_range
  have hloc : locate s.params (busOffset s.params (s.params.base + BitVec.ofNat 32 (id.window + a))) =
      some (.mem id a) := by
    rw [busOffset_add _ (by omega), locate_mem hp (id := id) (backs_iff.mpr ⟨by omega, by omega⟩),
      Nat.add_sub_cancel_left]
  have hacc : memAccess s.params id w a = true := memAccess_iff.mpr ⟨halign, hcap⟩
  have hin (k : Nat) (hk : k < w.bytes) : (s.writeBytes id a w.bytes v).rd id (a + k) = v.extractLsb' (8 * k) 8 := by
    rw [State.rd_writeBytes, if_pos ⟨rfl, by omega, by omega⟩, Nat.add_sub_cancel_left]
  refine ⟨s.writeBytes id a w.bytes v, (access_mem hidle hloc hacc v).2, hin, fun id' a' hout => ?_,
    rfl, rfl, rfl, rfl, rfl, rfl, rfl, ?_⟩
  · rw [State.rd_writeBytes, if_neg]
    rintro ⟨hid, hlo, hhi⟩
    obtain hne | hlt | hge := hout
    · exact hne hid
    · omega
    · omega
  · have hread := (access_mem (s := s.writeBytes id a w.bytes v) hidle hloc hacc v).1
    rw [State.readBytes_of_bytes (j := 0) (v := v) (by simpa using hin), Nat.pow_zero, Nat.div_one] at hread
    exact hread

/-! ### What the registers read as (R22 to R46) -/

/-- The field of `width` bits at bit `lo` of a bus word is `value`. -/
def FieldIs (x : Word) (lo width value : Nat) : Prop := x.toNat / 2 ^ lo % 2 ^ width = value

theorem fieldIs_word (x : Word) : FieldIs x 0 32 x.toNat := by
  rw [FieldIs, Nat.pow_zero, Nat.div_one, Nat.mod_eq_of_lt x.isLt]

/-- A register of one field at bit 0 reads it there, and 0 in the reserved bits above it. -/
theorem fieldIs_setWidth {k : Nat} (hk : k ≤ 32) (x : BitVec k) :
    FieldIs (x.setWidth 32) 0 k x.toNat ∧ ∀ width, FieldIs (x.setWidth 32) k width 0 := by
  have hx : (x.setWidth 32).toNat = x.toNat := BitVec.toNat_setWidth_of_le hk
  refine ⟨?_, fun width => ?_⟩
  · rw [FieldIs, hx, Nat.pow_zero, Nat.div_one, Nat.mod_eq_of_lt x.isLt]
  · rw [FieldIs, hx, Nat.div_eq_of_lt x.isLt, Nat.zero_mod]

/-- COLOR and FRAME_OPS: two fields of 8 bits, the rest reserved. -/
theorem fieldIs_bytes (lo hi : BitVec 8) : FieldIs (BitVec.ofNat 32 (lo.toNat + 256 * hi.toNat)) 0 8 lo.toNat ∧
    FieldIs (BitVec.ofNat 32 (lo.toNat + 256 * hi.toNat)) 8 8 hi.toNat ∧
    FieldIs (BitVec.ofNat 32 (lo.toNat + 256 * hi.toNat)) 16 16 0 := by
  have hlo := lo.isLt
  have hhi := hi.isLt
  simp only [FieldIs, BitVec.toNat_ofNat]
  omega

/-- FRAME_DELAY: two fields of 16 bits. -/
theorem fieldIs_halves (lo hi : BitVec 16) : FieldIs (BitVec.ofNat 32 (lo.toNat + 65536 * hi.toNat)) 0 16 lo.toNat ∧
    FieldIs (BitVec.ofNat 32 (lo.toNat + 65536 * hi.toNat)) 16 16 hi.toNat := by
  have hlo := lo.isLt
  have hhi := hi.isLt
  simp only [FieldIs, BitVec.toNat_ofNat]
  omega

/-- CTRL: BLEND_MODE between SRST, which reads 0, and the reserved bits. -/
theorem fieldIs_ctrl (x : BitVec 2) : FieldIs (BitVec.ofNat 32 (2 * x.toNat)) 0 1 0 ∧
    FieldIs (BitVec.ofNat 32 (2 * x.toNat)) 1 2 x.toNat ∧ FieldIs (BitVec.ofNat 32 (2 * x.toNat)) 3 29 0 := by
  have hx := x.isLt
  simp only [FieldIs, BitVec.toNat_ofNat]
  omega

/-- R25 to R28 -/
theorem fieldIs_status (st : Status) : FieldIs st.word 0 1 st.busy.toNat ∧ FieldIs st.word 1 1 st.done.toNat ∧
    FieldIs st.word 2 1 st.error.toNat ∧ FieldIs st.word 3 1 0 ∧ FieldIs st.word 4 4 st.code.toNat ∧
    FieldIs st.word 8 24 0 := by
  have hbusy := st.busy.toNat_le
  have hdone := st.done.toNat_le
  have herror := st.error.toNat_le
  have hcode := st.code.isLt
  simp only [FieldIs, Status.word, BitVec.toNat_ofNat]
  omega

/-- R22: every row of the register table, register by register. -/
theorem registerFields_read (s : State) :
    ∀ f ∈ registerFields s, FieldIs (s.readReg f.1) f.2.1 f.2.2.1 f.2.2.2 := by
  obtain ⟨hbusy, hdone, herror, hgap, hcode, hrest⟩ := fieldIs_status s.status
  obtain ⟨hsrst, hmode, hctrl⟩ := fieldIs_ctrl s.regs.blendMode
  obtain ⟨htype, hdepth, hcolor⟩ := fieldIs_bytes s.regs.colorType s.regs.bitDepth
  obtain ⟨hdispose, hblend, hops⟩ := fieldIs_bytes s.regs.dispose s.regs.blend
  obtain ⟨hnum, hden⟩ := fieldIs_halves s.regs.delayNum s.regs.delayDen
  obtain ⟨hop, hcmd⟩ := fieldIs_setWidth (by decide) s.regs.op
  obtain ⟨hsite, hsite'⟩ := fieldIs_setWidth (by decide) s.regs.errSite
  obtain ⟨htrns, htrns'⟩ := fieldIs_setWidth (by decide) s.regs.trnsLen
  obtain ⟨hprev, hprev'⟩ := fieldIs_setWidth (by decide) s.regs.prevDispose
  obtain ⟨hsel, hsel'⟩ := fieldIs_setWidth (by decide) s.regs.tblSel
  obtain ⟨hn, hn'⟩ := fieldIs_setWidth (by decide) s.regs.tblN
  simp only [registerFields, List.forall_mem_append, List.forall_mem_cons, List.not_mem_nil, false_implies,
    implies_true, and_true]
  exact
    ⟨⟨hop, hcmd _, hbusy, hdone, herror, hgap, hcode, hrest, hsite, hsite' _, hsrst, hmode, hctrl, fieldIs_word _,
      fieldIs_word _, fieldIs_word _, fieldIs_word _, fieldIs_word _, htype, hdepth, hcolor, fieldIs_word _,
      fieldIs_word _, fieldIs_word _, fieldIs_word _⟩,
    hdispose, hblend, hops, hnum, hden, fieldIs_word _, fieldIs_word _, htrns, htrns' _, hprev, hprev' _,
      fieldIs_word _, fieldIs_word _, fieldIs_word _, fieldIs_word _, hsel, hsel' _, hn, hn' _⟩

/-- Settles O29: a read is refused or returns its data; an idle one of a register returns it, field by field. -/
theorem hostReadsHaveNoSideEffect : Obligations.HostReadsHaveNoSideEffect := by
  refine ⟨fun s t w a hread => ?_, fun s r hidle => hostAccess_rd32_idle hidle r,
    fun s r lo width value hfield => registerFields_read s _ hfield⟩
  obtain ⟨r, heq⟩ | ⟨x, heq⟩ := read_cases w a s <;> rw [heq] at hread <;> cases hread
  exact ⟨x, rfl⟩

end Sys2Proof.Machine
end

section
/-! PROOFS. Decode and encode agree: one equivalence per code space, and from them the words of every instruction. -/

namespace Sys2Proof

/-! ### What well-formedness says of each operand -/

theorem Instr.wf_cmdReserved {op : Nat} : (Instr.cmdReserved op).wf = true ↔ 8 ≤ op ∧ op ≤ 15 := by simp [Instr.wf]

theorem Instr.wf_lit {v : Nat} : (Instr.lit v).wf = true ↔ v ≤ 255 := by simp [Instr.wf]

theorem Instr.wf_len {sym : Nat} : (Instr.len sym).wf = true ↔ 257 ≤ sym ∧ sym ≤ 285 := by simp [Instr.wf]

theorem Instr.wf_llInvalid {sym : Nat} : (Instr.llInvalid sym).wf = true ↔ 286 ≤ sym ∧ sym ≤ 287 := by simp [Instr.wf]

theorem Instr.wf_dist {d : Nat} : (Instr.dist d).wf = true ↔ d ≤ 29 := by simp [Instr.wf]

theorem Instr.wf_distInvalid {d : Nat} : (Instr.distInvalid d).wf = true ↔ 30 ≤ d ∧ d ≤ 31 := by simp [Instr.wf]

theorem Instr.wf_clLen {l : Nat} : (Instr.clLen l).wf = true ↔ l ≤ 15 := by simp [Instr.wf]

theorem Instr.wf_zlibCmfOk {cinfo : Nat} : (Instr.zlibCmfOk cinfo).wf = true ↔ cinfo ≤ 7 := by simp [Instr.wf]

theorem Instr.wf_zlibFlgFdictClear {flevel fcheck : Nat} :
    (Instr.zlibFlgFdictClear flevel fcheck).wf = true ↔ flevel ≤ 3 ∧ fcheck ≤ 31 := by simp [Instr.wf]

theorem Instr.wf_filtInvalid {v : Nat} : (Instr.filtInvalid v).wf = true ↔ 5 ≤ v ∧ v ≤ 255 := by simp [Instr.wf]

theorem Instr.wf_disposeInvalid {u : DisposeUse} {v : Nat} : (Instr.disposeInvalid u v).wf = true ↔ 3 ≤ v ∧ v ≤ 255 := by
  simp [Instr.wf]

theorem Instr.wf_blendInvalid {u : BlendUse} {v : Nat} : (Instr.blendInvalid u v).wf = true ↔ 2 ≤ v ∧ v ≤ 255 := by
  simp [Instr.wf]

/-! ### The words past the named codes -/

theorem decodeCmd_reserved {op : Nat} (hlo : 8 ≤ op) (hhi : op < 16) : decodeCmd op = .ok (.cmdReserved op) := by
  interval_cases op <;> rfl

theorem decodeFilterType_invalid {w : Nat} (hlo : 5 ≤ w) (hhi : w < 256) : decodeFilterType w = .ok (.filtInvalid w) := by
  obtain ⟨k, rfl⟩ := Nat.exists_eq_add_of_le' hlo
  exact if_neg (by omega)

theorem decodeDispose_invalid (u : DisposeUse) {w : Nat} (hlo : 3 ≤ w) (hhi : w < 256) :
    decodeDispose u w = .ok (.disposeInvalid u w) := by
  obtain ⟨k, rfl⟩ := Nat.exists_eq_add_of_le' hlo
  exact if_neg (by omega)

theorem decodeBlend_invalid (u : BlendUse) {w : Nat} (hlo : 2 ≤ w) (hhi : w < 256) :
    decodeBlend u w = .ok (.blendInvalid u w) := by
  obtain ⟨k, rfl⟩ := Nat.exists_eq_add_of_le' hlo
  exact if_neg (by omega)

theorem decodeLLSym_noCode {w : Nat} (h : 288 ≤ w) : decodeLLSym w = .error .noCode := by
  rw [decodeLLSym, if_neg (by omega), if_neg (by omega), if_neg (by omega), if_neg (by omega)]

theorem decodeDSym_noCode {w : Nat} (h : 32 ≤ w) : decodeDSym w = .error .noCode := by
  rw [decodeDSym, if_neg (by omega), if_neg (by omega)]

theorem decodeCLSym_noCode {w : Nat} (h : 19 ≤ w) : decodeCLSym w = .error .noCode := by
  obtain ⟨k, rfl⟩ := Nat.exists_eq_add_of_le' h
  exact if_neg (by omega)

/-- A word that does not fit its code space is no instruction. -/
theorem decode_noCode_of_width_le {fmt : Format} {w : Nat} (h : 2 ^ fmt.width ≤ w) : decode fmt w = .error .noCode := by
  cases fmt <;> simp only [Format.width] at h <;> simp only [decode]
  case cmd | blockHdr | zlibCmf | zlibFlg | filterType | dispose | blend | color => exact if_pos (by omega)
  case fixedLL7 | fixedLL9 => exact if_neg (by omega)
  case fixedLL8 => rw [decodeFixedLL8, if_neg (by omega), if_neg (by omega)]
  case llSym => exact decodeLLSym_noCode (by omega)
  case fixedD5 | dSym => exact decodeDSym_noCode h
  case clSym => exact decodeCLSym_noCode (by omega)
  case blendMode | tblSel =>
    obtain ⟨k, rfl⟩ := Nat.exists_eq_add_of_le' h
    rfl

theorem decode_lt {fmt : Format} {w : Nat} {i : Instr} (h : decode fmt w = .ok i) : w < 2 ^ fmt.width := by
  by_contra hw
  rw [decode_noCode_of_width_le (by omega)] at h
  cases h

/-- R100: bits [31:4] are ignored. -/
theorem decodeCmd_mod {w : Nat} (h : w < 2 ^ 32) : decodeCmd w = decodeCmd (w % 16) := by
  have hmod := Nat.mod_lt w (show 0 < 16 by decide)
  rw [decodeCmd, if_neg (Nat.not_le.2 h), decodeCmd, if_neg (by omega), Nat.mod_mod]

/-! ### One space at a time: a word decodes to an instruction exactly when it is that well-formed instruction's word -/

section
variable {w : Nat} {i : Instr}

theorem decodeCmd_eq_ok_iff (hw : w < 16) : decodeCmd w = .ok i ↔ i.wf = true ∧ encodeCmd i = some w := by
  constructor
  · intro h
    interval_cases w <;> cases h <;> exact ⟨rfl, rfl⟩
  · rintro ⟨hwf, h⟩
    unfold encodeCmd at h
    split at h <;> cases h
    case h_9 => exact decodeCmd_reserved (Instr.wf_cmdReserved.1 hwf).1 hw
    all_goals rfl

theorem decodeBlockHdr_eq_ok_iff : decodeBlockHdr w = .ok i ↔ i.wf = true ∧ encodeBlockHdr i = some w := by
  constructor
  · intro h
    have hw : w < 8 := decode_lt (fmt := .blockHdr) h
    interval_cases w <;> cases h <;> exact ⟨rfl, rfl⟩
  · rintro ⟨-, h⟩
    unfold encodeBlockHdr at h
    split at h <;> cases h <;> rename_i bfinal <;> cases bfinal <;> rfl

theorem decodeLLSym_eq_ok_iff : decodeLLSym w = .ok i ↔ i.wf = true ∧ encodeLLSym i = some w := by
  constructor
  · intro h
    unfold decodeLLSym at h
    split_ifs at h with hlit heob hlen hinv <;> cases h
    · exact ⟨Instr.wf_lit.2 hlit, rfl⟩
    · exact ⟨rfl, congrArg some heob.symm⟩
    · exact ⟨Instr.wf_len.2 ⟨by omega, hlen⟩, rfl⟩
    · exact ⟨Instr.wf_llInvalid.2 ⟨by omega, hinv⟩, rfl⟩
  · rintro ⟨hwf, h⟩
    unfold encodeLLSym at h
    split at h <;> cases h
    · exact if_pos (Instr.wf_lit.1 hwf)
    · rfl
    · obtain ⟨hlo, hhi⟩ := Instr.wf_len.1 hwf
      rw [decodeLLSym, if_neg (by omega), if_neg (by omega), if_pos hhi]
    · obtain ⟨hlo, hhi⟩ := Instr.wf_llInvalid.1 hwf
      rw [decodeLLSym, if_neg (by omega), if_neg (by omega), if_neg (by omega), if_pos hhi]

/-! R115: a fixed code is the word of what its symbol is the word of. -/

theorem encodeFixedLL7_eq_some_iff : encodeFixedLL7 i = some w ↔ w ≤ 0x17 ∧ encodeLLSym i = some (256 + w) := by
  unfold encodeFixedLL7
  cases encodeLLSym i with
  | none => simp
  | some sym =>
    simp only [Option.ite_none_right_eq_some, Option.some.injEq]
    omega

theorem encodeFixedLL8_eq_some_iff : encodeFixedLL8 i = some w ↔
    (0x30 ≤ w ∧ w ≤ 0xBF) ∧ encodeLLSym i = some (w - 0x30) ∨
    (0xC0 ≤ w ∧ w ≤ 0xC7) ∧ encodeLLSym i = some (280 + (w - 0xC0)) := by
  unfold encodeFixedLL8
  cases encodeLLSym i with
  | none => simp
  | some sym =>
    dsimp only
    split_ifs <;> simp only [Option.some.injEq, false_iff] <;> omega

theorem encodeFixedLL9_eq_some_iff :
    encodeFixedLL9 i = some w ↔ (0x190 ≤ w ∧ w ≤ 0x1FF) ∧ encodeLLSym i = some (144 + (w - 0x190)) := by
  unfold encodeFixedLL9
  cases encodeLLSym i with
  | none => simp
  | some sym =>
    simp only [Option.ite_none_right_eq_some, Option.some.injEq]
    omega

theorem decodeFixedLL7_eq_ok_iff : decodeFixedLL7 w = .ok i ↔ i.wf = true ∧ encodeFixedLL7 i = some w := by
  rw [encodeFixedLL7_eq_some_iff, decodeFixedLL7]
  split_ifs with hw
  · simp only [hw, true_and, decodeLLSym_eq_ok_iff]
  · simp [hw]

theorem decodeFixedLL8_eq_ok_iff : decodeFixedLL8 w = .ok i ↔ i.wf = true ∧ encodeFixedLL8 i = some w := by
  rw [encodeFixedLL8_eq_some_iff, decodeFixedLL8]
  split_ifs with hlow hhigh
  · simp only [hlow, show ¬(0xC0 ≤ w ∧ w ≤ 0xC7) by omega, and_self, true_and, false_and, or_false, decodeLLSym_eq_ok_iff]
  · simp only [hlow, hhigh, and_self, true_and, false_and, false_or, decodeLLSym_eq_ok_iff]
  · simp [hlow, hhigh]

theorem decodeFixedLL9_eq_ok_iff : decodeFixedLL9 w = .ok i ↔ i.wf = true ∧ encodeFixedLL9 i = some w := by
  rw [encodeFixedLL9_eq_some_iff, decodeFixedLL9]
  split_ifs with hw
  · simp only [hw, and_self, true_and, decodeLLSym_eq_ok_iff]
  · simp [hw]

theorem decodeDSym_eq_ok_iff : decodeDSym w = .ok i ↔ i.wf = true ∧ encodeDSym i = some w := by
  constructor
  · intro h
    unfold decodeDSym at h
    split_ifs at h with hdist hinv <;> cases h
    · exact ⟨Instr.wf_dist.2 hdist, rfl⟩
    · exact ⟨Instr.wf_distInvalid.2 ⟨by omega, hinv⟩, rfl⟩
  · rintro ⟨hwf, h⟩
    unfold encodeDSym at h
    split at h <;> cases h
    · exact if_pos (Instr.wf_dist.1 hwf)
    · obtain ⟨hlo, hhi⟩ := Instr.wf_distInvalid.1 hwf
      rw [decodeDSym, if_neg (by omega), if_pos hhi]

theorem decodeCLSym_eq_ok_iff : decodeCLSym w = .ok i ↔ i.wf = true ∧ encodeCLSym i = some w := by
  constructor
  · intro h
    have hw : w < 19 := by
      by_contra hw
      rw [decodeCLSym_noCode (by omega)] at h
      cases h
    interval_cases w <;> cases h <;> exact ⟨rfl, rfl⟩
  · rintro ⟨hwf, h⟩
    unfold encodeCLSym at h
    split at h <;> cases h
    · exact if_pos (Instr.wf_clLen.1 hwf)
    all_goals rfl

theorem decodeZlibCmf_eq_ok_iff : decodeZlibCmf w = .ok i ↔ i.wf = true ∧ encodeZlibCmf i = some w := by
  constructor
  · intro h
    unfold decodeZlibCmf at h
    split_ifs at h with hwidth hmethod
    cases h
    exact ⟨Instr.wf_zlibCmfOk.2 hmethod.2, congrArg some (by omega)⟩
  · rintro ⟨hwf, h⟩
    unfold encodeZlibCmf at h
    split at h <;> cases h
    have hcinfo := Instr.wf_zlibCmfOk.1 hwf
    rw [decodeZlibCmf, if_neg (by omega), if_pos (by omega)]
    congr 2
    omega

theorem decodeZlibFlg_eq_ok_iff : decodeZlibFlg w = .ok i ↔ i.wf = true ∧ encodeZlibFlg i = some w := by
  constructor
  · intro h
    unfold decodeZlibFlg at h
    split_ifs at h with hwidth hfdict
    cases h
    exact ⟨Instr.wf_zlibFlgFdictClear.2 ⟨by omega, by omega⟩, congrArg some (by omega)⟩
  · rintro ⟨hwf, h⟩
    unfold encodeZlibFlg at h
    split at h <;> cases h
    obtain ⟨hflevel, hfcheck⟩ := Instr.wf_zlibFlgFdictClear.1 hwf
    rw [decodeZlibFlg, if_neg (by omega), if_neg (by omega)]
    congr 2 <;> omega

theorem decodeFilterType_eq_ok_iff : decodeFilterType w = .ok i ↔ i.wf = true ∧ encodeFilterType i = some w := by
  constructor
  · intro h
    have hw : w < 256 := decode_lt (fmt := .filterType) h
    obtain hlo | hlo := Nat.lt_or_ge w 5
    · interval_cases w <;> cases h <;> exact ⟨rfl, rfl⟩
    · cases (decodeFilterType_invalid hlo hw).symm.trans h
      exact ⟨Instr.wf_filtInvalid.2 ⟨hlo, by omega⟩, rfl⟩
  · rintro ⟨hwf, h⟩
    unfold encodeFilterType at h
    split at h <;> cases h
    case h_6 =>
      obtain ⟨hlo, hhi⟩ := Instr.wf_filtInvalid.1 hwf
      exact decodeFilterType_invalid hlo (by omega)
    all_goals rfl

theorem decodeDispose_eq_ok_iff {u : DisposeUse} :
    decodeDispose u w = .ok i ↔ i.wf = true ∧ encodeDispose u i = some w := by
  constructor
  · intro h
    have hw : w < 256 := decode_lt (fmt := .dispose u) h
    obtain hlo | hlo := Nat.lt_or_ge w 3
    · interval_cases w <;> cases h <;> exact ⟨rfl, if_pos rfl⟩
    · cases (decodeDispose_invalid u hlo hw).symm.trans h
      exact ⟨Instr.wf_disposeInvalid.2 ⟨hlo, by omega⟩, if_pos rfl⟩
  · rintro ⟨hwf, h⟩
    unfold encodeDispose at h
    split at h
    case h_5 => cases h
    all_goals
      simp only [Option.ite_none_right_eq_some, Option.some.injEq] at h
      obtain ⟨rfl, rfl⟩ := h
    case h_4 =>
      obtain ⟨hlo, hhi⟩ := Instr.wf_disposeInvalid.1 hwf
      exact decodeDispose_invalid _ hlo (by omega)
    all_goals rfl

theorem decodeBlend_eq_ok_iff {u : BlendUse} : decodeBlend u w = .ok i ↔ i.wf = true ∧ encodeBlend u i = some w := by
  constructor
  · intro h
    have hw : w < 256 := decode_lt (fmt := .blend u) h
    obtain hlo | hlo := Nat.lt_or_ge w 2
    · interval_cases w <;> cases h <;> exact ⟨rfl, if_pos rfl⟩
    · cases (decodeBlend_invalid u hlo hw).symm.trans h
      exact ⟨Instr.wf_blendInvalid.2 ⟨hlo, by omega⟩, if_pos rfl⟩
  · rintro ⟨hwf, h⟩
    unfold encodeBlend at h
    split at h
    case h_4 => cases h
    all_goals
      simp only [Option.ite_none_right_eq_some, Option.some.injEq] at h
      obtain ⟨rfl, rfl⟩ := h
    case h_3 =>
      obtain ⟨hlo, hhi⟩ := Instr.wf_blendInvalid.1 hwf
      exact decodeBlend_invalid _ hlo (by omega)
    all_goals rfl

theorem decodeBlendMode_eq_ok_iff : decodeBlendMode w = .ok i ↔ i.wf = true ∧ encodeBlendMode i = some w := by
  constructor
  · intro h
    have hw : w < 4 := decode_lt (fmt := .blendMode) h
    interval_cases w <;> cases h <;> exact ⟨rfl, rfl⟩
  · rintro ⟨-, h⟩
    unfold encodeBlendMode at h
    split at h <;> cases h <;> rfl

theorem decodeTblSel_eq_ok_iff : decodeTblSel w = .ok i ↔ i.wf = true ∧ encodeTblSel i = some w := by
  constructor
  · intro h
    have hw : w < 4 := decode_lt (fmt := .tblSel) h
    interval_cases w <;> cases h <;> exact ⟨rfl, rfl⟩
  · rintro ⟨-, h⟩
    unfold encodeTblSel at h
    split at h <;> cases h <;> rfl

theorem decodeColor_eq_ok_iff : decodeColor w = .ok i ↔ i.wf = true ∧ encodeColor i = some w := by
  constructor
  · intro h
    unfold decodeColor at h
    split_ifs at h
    generalize htype : w % 256 = type at h
    generalize hdepth : w / 256 = depth at h
    split at h <;> cases h <;> exact ⟨rfl, congrArg some (by omega)⟩
  · rintro ⟨-, h⟩
    unfold encodeColor at h
    split at h <;> cases h <;> rfl

/-! ### Decode and encode agree -/

/-- In every space but the command words, whose bits [31:4] are ignored (R100), decoding is the inverse of encoding. -/
theorem decode_eq_ok_iff {fmt : Format} (hfmt : fmt ≠ .cmd) :
    decode fmt w = .ok i ↔ i.wf = true ∧ encodeIn fmt i = some w := by
  cases fmt
  case cmd => exact absurd rfl hfmt
  case blockHdr => exact decodeBlockHdr_eq_ok_iff
  case fixedLL7 => exact decodeFixedLL7_eq_ok_iff
  case fixedLL8 => exact decodeFixedLL8_eq_ok_iff
  case fixedLL9 => exact decodeFixedLL9_eq_ok_iff
  case fixedD5 | dSym => exact decodeDSym_eq_ok_iff
  case llSym => exact decodeLLSym_eq_ok_iff
  case clSym => exact decodeCLSym_eq_ok_iff
  case zlibCmf => exact decodeZlibCmf_eq_ok_iff
  case zlibFlg => exact decodeZlibFlg_eq_ok_iff
  case filterType => exact decodeFilterType_eq_ok_iff
  case dispose => exact decodeDispose_eq_ok_iff
  case blend => exact decodeBlend_eq_ok_iff
  case blendMode => exact decodeBlendMode_eq_ok_iff
  case tblSel => exact decodeTblSel_eq_ok_iff
  case color => exact decodeColor_eq_ok_iff

/-- R100: the word of a command instruction is its OP value. -/
theorem encodeCmd_lt {i : Instr} (hwf : i.wf = true) (h : encodeCmd i = some w) : w < 16 := by
  unfold encodeCmd at h
  split at h <;> cases h
  case h_9 => exact Nat.lt_succ_of_le (Instr.wf_cmdReserved.1 hwf).2
  all_goals decide

theorem decode_of_encodeIn {fmt : Format} (hwf : i.wf = true) (h : encodeIn fmt i = some w) : decode fmt w = .ok i := by
  by_cases hfmt : fmt = .cmd
  · subst hfmt
    exact (decodeCmd_eq_ok_iff (encodeCmd_lt hwf h)).2 ⟨hwf, h⟩
  · exact (decode_eq_ok_iff hfmt).2 ⟨hwf, h⟩

end

/-- Every instruction has a word in its own code space; the dispose and blend codes have it at their own use. -/
theorem encode_isSome (i : Instr) : (encode i).isSome = true := by
  cases i
  case disposeNone | disposeBackground | disposePrevious | disposeInvalid =>
    simp [encode, Instr.format, encodeIn, encodeDispose]
  case blendSource | blendOver | blendInvalid => simp [encode, Instr.format, encodeIn, encodeBlend]
  all_goals rfl

/-- Settles O1: decoding inverts encoding, one code space at a time, and only words that fit decode. -/
theorem everyInstructionDecodesFromItsWord : Obligations.EveryInstructionDecodesFromItsWord := by
  intro i hwf
  refine ⟨encode_isSome i, fun fmt w h => ?_⟩
  have hdec := decode_of_encodeIn hwf h
  exact ⟨decode_lt hdec, hdec⟩

/-- Settles O2: a command word decodes as its low 4 bits do, every other word is the instruction's own. -/
theorem everyDecodedWordIsTheEncodingOfItsInstruction : Obligations.EveryDecodedWordIsTheEncodingOfItsInstruction := by
  intro fmt w i h
  have hlt := decode_lt h
  by_cases hfmt : fmt = .cmd
  · subst hfmt
    have hlow : decodeCmd (w % 16) = .ok i := (decodeCmd_mod hlt).symm.trans h
    obtain ⟨hwf, henc⟩ := (decodeCmd_eq_ok_iff (Nat.mod_lt w (by decide))).1 hlow
    exact ⟨hwf, hlt, by rw [if_pos rfl]; exact henc⟩
  · obtain ⟨hwf, henc⟩ := (decode_eq_ok_iff hfmt).1 h
    exact ⟨hwf, hlt, by rw [if_neg hfmt]; exact henc⟩

/-- Settles O4: every word is run through the decoder. -/
theorem writtenOutWordsDecode : Obligations.WrittenOutWordsDecode := by
  unfold Obligations.WrittenOutWordsDecode
  decide

end Sys2Proof
end

section
/-! PROOFS. The opcode table and the decoder: what a row covers, that what decodes is listed under its mnemonic, that what a
row covers decodes, and that no word is in two rows. -/

namespace Sys2Proof

open Sys2Proof.Machine

section
variable {w : Nat} {i : Instr}

/-! ### What a row covers -/

/-- A mask of `m` bits from bit `k` on keeps that field of the word. -/
theorem land_field (w m k : Nat) : w &&& (2 ^ m - 1) * 2 ^ k = w / 2 ^ k % 2 ^ m * 2 ^ k := by
  refine Nat.eq_of_testBit_eq fun j => ?_
  simp only [Nat.testBit_and, Nat.testBit_mul_two_pow, Nat.testBit_two_pow_sub_one, Nat.testBit_mod_two_pow,
    Nat.testBit_div_two_pow]
  by_cases hk : k ≤ j
  · simp [hk, Nat.sub_add_cancel hk, Bool.and_comm]
  · simp [hk]

theorem OpcodeRow.covers_iff {r : OpcodeRow} :
    r.covers w = true ↔ w < 2 ^ r.fmt.width ∧ w &&& r.mask = r.pattern := by
  simp [OpcodeRow.covers]

/-- The number of words of a row whose mask is the leading bits of the word. -/
def OpcodeRow.size (r : OpcodeRow) : Nat := 2 ^ r.fmt.width - r.mask

/-- The row's mask is the leading bits of the word, and its pattern sets no other bit. -/
def OpcodeRow.isBlock (r : OpcodeRow) : Bool :=
  r.size == 2 ^ r.size.log2 && r.size.log2 ≤ r.fmt.width && r.pattern % r.size == 0

/-- A row that fixes the leading bits of its words is the words from its pattern on. -/
theorem OpcodeRow.covers_iff_of_isBlock {r : OpcodeRow} (hr : r.isBlock = true) :
    r.covers w = true ↔ w < 2 ^ r.fmt.width ∧ r.pattern ≤ w ∧ w < r.pattern + r.size := by
  simp only [OpcodeRow.isBlock, Bool.and_eq_true, beq_iff_eq, decide_eq_true_eq] at hr
  obtain ⟨⟨hsize, hk⟩, hpat⟩ := hr
  rw [OpcodeRow.covers_iff]
  refine and_congr_right fun hw => ?_
  generalize r.size.log2 = k at hsize hk
  have hsplit : 2 ^ r.fmt.width = 2 ^ (r.fmt.width - k) * 2 ^ k := by rw [← pow_add, Nat.sub_add_cancel hk]
  have hmask : r.mask = (2 ^ (r.fmt.width - k) - 1) * 2 ^ k := by
    have hpos := Nat.two_pow_pos k
    rw [Nat.sub_mul, one_mul, ← hsplit]
    rw [OpcodeRow.size] at hsize
    omega
  have hdiv : w / 2 ^ k < 2 ^ (r.fmt.width - k) := Nat.div_lt_of_lt_mul (by rwa [mul_comm, ← hsplit])
  rw [hmask, land_field, Nat.mod_eq_of_lt hdiv]
  obtain ⟨q, hq⟩ := Nat.dvd_of_mod_eq_zero hpat
  rw [hq, hsize, mul_comm, Nat.mul_right_inj (Nat.two_pow_pos k).ne', Nat.div_eq_iff (Nat.two_pow_pos k), mul_comm q]
  have hpos := Nat.two_pow_pos k
  omega

/-- The rows lie end to end from `lo` to `hi`. -/
def tiles : (lo : Nat) → List OpcodeRow → (hi : Nat) → Bool
  | lo, [], hi => lo == hi
  | lo, r :: rows, hi => r.pattern == lo && r.isBlock && tiles (lo + r.size) rows hi

theorem exists_covers_of_tiles {rows : List OpcodeRow} {lo hi : Nat} (h : tiles lo rows hi = true) (hlo : lo ≤ w)
    (hhi : w < hi) (hwidth : ∀ r ∈ rows, w < 2 ^ r.fmt.width) : ∃ r ∈ rows, r.covers w = true := by
  induction rows generalizing lo with
  | nil =>
    simp only [tiles, beq_iff_eq] at h
    omega
  | cons r rows ih =>
    simp only [tiles, Bool.and_eq_true, beq_iff_eq] at h
    obtain ⟨⟨hpat, hblock⟩, hrest⟩ := h
    by_cases hw : w < lo + r.size
    · exact ⟨r, List.mem_cons_self, (OpcodeRow.covers_iff_of_isBlock hblock).2 ⟨hwidth r List.mem_cons_self, by omega⟩⟩
    · obtain ⟨r', hmem, hcov⟩ := ih hrest (by omega) fun r' hr' => hwidth r' (List.mem_cons_of_mem r hr')
      exact ⟨r', List.mem_cons_of_mem r hmem, hcov⟩

/-- The table lists the word under the name. -/
abbrev Listed (fmt : Format) (w : Nat) (name : String) : Prop :=
  ∃ r ∈ opcodeRows, r.fmt = fmt ∧ r.covers w = true ∧ r.name = name

/-- The rows of a mnemonic in a code space. -/
def namedRows (fmt : Format) (name : String) : List OpcodeRow := opcodeRows.filter (fun r => r.fmt = fmt ∧ r.name = name)

/-- The rows of the mnemonic are the words of the code space from `lo` to before `hi`. -/
abbrev Tiled (fmt : Format) (name : String) (lo hi : Nat) : Prop :=
  tiles lo (namedRows fmt name) hi = true ∧ hi ≤ 2 ^ fmt.width

theorem listed_of_tiled {fmt : Format} {name : String} {lo hi : Nat} (h : Tiled fmt name lo hi) (hlo : lo ≤ w)
    (hhi : w < hi) : Listed fmt w name := by
  obtain ⟨htiles, hwidth⟩ := h
  have hrows : ∀ r ∈ namedRows fmt name, r ∈ opcodeRows ∧ r.fmt = fmt ∧ r.name = name := by simp [namedRows]
  have hfits : ∀ r ∈ namedRows fmt name, w < 2 ^ r.fmt.width := fun r hr => by
    rw [(hrows r hr).2.1]
    omega
  obtain ⟨r, hmem, hcov⟩ := exists_covers_of_tiles htiles hlo hhi hfits
  obtain ⟨htable, hfmt, hname⟩ := hrows r hmem
  exact ⟨r, htable, hfmt, hcov, hname⟩

/-! ### What decodes is in the table -/

theorem listed_blockHdr (h : encodeBlockHdr i = some w) : Listed .blockHdr w i.mnemonic := by
  unfold encodeBlockHdr at h
  split at h <;> cases h <;> rename_i bfinal <;> cases bfinal <;> decide

/-- R109: the mnemonic of a literal/length symbol. -/
def llMnemonic (sym : Nat) : String :=
  if sym ≤ 255 then "LIT" else if sym = 256 then "EOB" else if sym ≤ 285 then "LEN" else "LL_INVALID"

theorem mnemonic_of_encodeLLSym {sym : Nat} (hwf : i.wf = true) (h : encodeLLSym i = some sym) :
    sym < 288 ∧ i.mnemonic = llMnemonic sym := by
  have hdec := decodeLLSym_eq_ok_iff.2 ⟨hwf, h⟩
  unfold decodeLLSym at hdec
  unfold llMnemonic
  split_ifs at hdec ⊢ <;> cases hdec
  all_goals exact ⟨by omega, rfl⟩

theorem listed_llSym (hwf : i.wf = true) (h : encodeLLSym i = some w) : Listed .llSym w i.mnemonic := by
  obtain ⟨hlt, hname⟩ := mnemonic_of_encodeLLSym hwf h
  rw [hname, llMnemonic]
  split_ifs with hlit heob hlen
  · exact listed_of_tiled (show Tiled .llSym "LIT" 0 256 by decide) (by omega) (by omega)
  · exact listed_of_tiled (show Tiled .llSym "EOB" 256 257 by decide) (by omega) (by omega)
  · exact listed_of_tiled (show Tiled .llSym "LEN" 257 286 by decide) (by omega) (by omega)
  · exact listed_of_tiled (show Tiled .llSym "LL_INVALID" 286 288 by decide) (by omega) hlt

theorem listed_fixedLL7 (hwf : i.wf = true) (h : encodeFixedLL7 i = some w) : Listed .fixedLL7 w i.mnemonic := by
  obtain ⟨hw, hsym⟩ := encodeFixedLL7_eq_some_iff.1 h
  obtain ⟨-, hname⟩ := mnemonic_of_encodeLLSym hwf hsym
  rw [hname, llMnemonic, if_neg (by omega)]
  split_ifs with heob hlen
  · exact listed_of_tiled (show Tiled .fixedLL7 "EOB" 0 1 by decide) (by omega) (by omega)
  · exact listed_of_tiled (show Tiled .fixedLL7 "LEN" 1 24 by decide) (by omega) (by omega)
  · omega

theorem listed_fixedLL8 (hwf : i.wf = true) (h : encodeFixedLL8 i = some w) : Listed .fixedLL8 w i.mnemonic := by
  obtain ⟨hw, hsym⟩ | ⟨hw, hsym⟩ := encodeFixedLL8_eq_some_iff.1 h
  · obtain ⟨-, hname⟩ := mnemonic_of_encodeLLSym hwf hsym
    rw [hname, llMnemonic, if_pos (by omega)]
    exact listed_of_tiled (show Tiled .fixedLL8 "LIT" 0x30 0xC0 by decide) (by omega) (by omega)
  · obtain ⟨-, hname⟩ := mnemonic_of_encodeLLSym hwf hsym
    rw [hname, llMnemonic, if_neg (by omega), if_neg (by omega)]
    split_ifs
    · exact listed_of_tiled (show Tiled .fixedLL8 "LEN" 0xC0 0xC6 by decide) (by omega) (by omega)
    · exact listed_of_tiled (show Tiled .fixedLL8 "LL_INVALID" 0xC6 0xC8 by decide) (by omega) (by omega)

theorem listed_fixedLL9 (hwf : i.wf = true) (h : encodeFixedLL9 i = some w) : Listed .fixedLL9 w i.mnemonic := by
  obtain ⟨hw, hsym⟩ := encodeFixedLL9_eq_some_iff.1 h
  obtain ⟨-, hname⟩ := mnemonic_of_encodeLLSym hwf hsym
  rw [hname, llMnemonic, if_pos (by omega)]
  exact listed_of_tiled (show Tiled .fixedLL9 "LIT" 0x190 0x200 by decide) (by omega) (by omega)

theorem listed_dist {fmt : Format} (hdist : Tiled fmt "DIST" 0 30) (hinv : Tiled fmt "DIST_INVALID" 30 32)
    (hwf : i.wf = true) (h : encodeDSym i = some w) : Listed fmt w i.mnemonic := by
  unfold encodeDSym at h
  split at h <;> cases h
  · exact listed_of_tiled hdist (Nat.zero_le w) (Nat.lt_succ_of_le (Instr.wf_dist.1 hwf))
  · obtain ⟨hlo, hhi⟩ := Instr.wf_distInvalid.1 hwf
    exact listed_of_tiled hinv hlo (Nat.lt_succ_of_le hhi)

theorem listed_clSym (hwf : i.wf = true) (h : encodeCLSym i = some w) : Listed .clSym w i.mnemonic := by
  unfold encodeCLSym at h
  split at h <;> cases h
  · exact listed_of_tiled (show Tiled .clSym "CL_LEN" 0 16 by decide) (Nat.zero_le w)
      (Nat.lt_succ_of_le (Instr.wf_clLen.1 hwf))
  all_goals decide

theorem listed_filterType (hwf : i.wf = true) (h : encodeFilterType i = some w) : Listed .filterType w i.mnemonic := by
  unfold encodeFilterType at h
  split at h <;> cases h
  case h_6 =>
    obtain ⟨hlo, hhi⟩ := Instr.wf_filtInvalid.1 hwf
    exact listed_of_tiled (show Tiled .filterType "FILT_INVALID" 5 256 by decide) hlo (Nat.lt_succ_of_le hhi)
  all_goals decide

theorem listed_dispose (hwf : i.wf = true) (h : encodeDispose .check i = some w) :
    Listed (.dispose .check) w i.mnemonic := by
  unfold encodeDispose at h
  split at h
  case h_5 => cases h
  all_goals
    simp only [Option.ite_none_right_eq_some, Option.some.injEq] at h
    obtain ⟨rfl, rfl⟩ := h
  case h_4 =>
    obtain ⟨hlo, hhi⟩ := Instr.wf_disposeInvalid.1 hwf
    exact listed_of_tiled (show Tiled (.dispose .check) "DISPOSE_INVALID" 3 256 by decide) hlo (Nat.lt_succ_of_le hhi)
  all_goals decide

theorem listed_blend (hwf : i.wf = true) (h : encodeBlend .check i = some w) : Listed (.blend .check) w i.mnemonic := by
  unfold encodeBlend at h
  split at h
  case h_4 => cases h
  all_goals
    simp only [Option.ite_none_right_eq_some, Option.some.injEq] at h
    obtain ⟨rfl, rfl⟩ := h
  case h_3 =>
    obtain ⟨hlo, hhi⟩ := Instr.wf_blendInvalid.1 hwf
    exact listed_of_tiled (show Tiled (.blend .check) "BLEND_INVALID" 2 256 by decide) hlo (Nat.lt_succ_of_le hhi)
  all_goals decide

theorem listed_blendMode (h : encodeBlendMode i = some w) : Listed .blendMode w i.mnemonic := by
  unfold encodeBlendMode at h
  split at h <;> cases h <;> decide

theorem listed_tblSel (h : encodeTblSel i = some w) : Listed .tblSel w i.mnemonic := by
  unfold encodeTblSel at h
  split at h <;> cases h <;> decide

theorem listed_color (h : encodeColor i = some w) : Listed .color w i.mnemonic := by
  unfold encodeColor at h
  split at h <;> cases h <;> decide

/-- R191: CM is 8 and bit 7 is clear. -/
theorem cmf_mask_iff (hw : w < 256) : w &&& 0x8F = 8 ↔ w % 16 = 8 ∧ w / 16 ≤ 7 := by
  revert w
  decide +kernel

/-- R192: FDICT is bit 5. -/
theorem flg_mask_iff : w &&& 0x20 = 0 ↔ w / 32 % 2 ≠ 1 := by
  have hbit : w &&& 0x20 = w / 32 % 2 * 32 := land_field w 1 5
  omega

theorem listed_zlibCmf (hwf : i.wf = true) (h : encodeZlibCmf i = some w) : Listed .zlibCmf w i.mnemonic := by
  unfold encodeZlibCmf at h
  split at h <;> cases h
  next cinfo =>
  have hcinfo := Instr.wf_zlibCmfOk.1 hwf
  have hmask := (cmf_mask_iff (w := cinfo * 16 + 8) (by omega)).2 (by omega)
  refine ⟨⟨.zlibCmf, "ZLIB_CMF_OK", 8, 0x8F⟩, by decide, rfl, OpcodeRow.covers_iff.2 ⟨?_, hmask⟩, rfl⟩
  show _ < 256
  omega

theorem listed_zlibFlg (hwf : i.wf = true) (h : encodeZlibFlg i = some w) : Listed .zlibFlg w i.mnemonic := by
  unfold encodeZlibFlg at h
  split at h <;> cases h
  next flevel fcheck =>
  obtain ⟨hflevel, hfcheck⟩ := Instr.wf_zlibFlgFdictClear.1 hwf
  have hmask := (flg_mask_iff (w := flevel * 64 + fcheck)).2 (by omega)
  refine ⟨⟨.zlibFlg, "ZLIB_FLG_FDICT_CLEAR", 0, 0x20⟩, by decide, rfl, OpcodeRow.covers_iff.2 ⟨?_, hmask⟩, rfl⟩
  show _ < 256
  omega

/-- R100: the rows of the command words look at the low 4 bits alone. -/
theorem covers_cmd_of_mod {r : OpcodeRow} (hr : r ∈ opcodeRows) (hfmt : r.fmt = .cmd) (hw : w < 2 ^ 32)
    (h : r.covers (w % 16) = true) : r.covers w = true := by
  have hmask : ∀ r ∈ opcodeRows, r.fmt = .cmd → r.mask < 2 ^ 4 := by decide
  have hlt := hmask r hr hfmt
  have hlow : (w % 2 ^ 4) &&& r.mask = w &&& r.mask := by
    rw [← Nat.mod_eq_of_lt hlt, ← Nat.and_mod_two_pow, Nat.mod_eq_of_lt hlt,
      Nat.mod_eq_of_lt (lt_of_le_of_lt Nat.and_le_right hlt)]
  obtain ⟨-, hand⟩ := OpcodeRow.covers_iff.1 h
  exact OpcodeRow.covers_iff.2 ⟨by rw [hfmt]; exact hw, hlow.symm.trans hand⟩

theorem listed_cmd (hw : w < 2 ^ 32) (hwf : i.wf = true) (h : encodeCmd i = some (w % 16)) : Listed .cmd w i.mnemonic := by
  have hlow : Listed .cmd (w % 16) i.mnemonic := by
    generalize w % 16 = op at h
    unfold encodeCmd at h
    split at h <;> cases h
    case h_9 =>
      obtain ⟨hlo, hhi⟩ := Instr.wf_cmdReserved.1 hwf
      interval_cases op <;> decide
    all_goals decide
  obtain ⟨r, hr, hfmt, hcov, hname⟩ := hlow
  exact ⟨r, hr, hfmt, covers_cmd_of_mod hr hfmt hw hcov, hname⟩

/-- The uses of the dispose and blend codes after the first, which the table does not list again. -/
def laterUses : List Format := [.dispose .restore, .dispose .snap, .blend .paint]

theorem listed_of_decode {fmt : Format} (h : decode fmt w = .ok i) (hlater : fmt ∉ laterUses) :
    Listed fmt w i.mnemonic := by
  obtain ⟨hwf, hlt, henc⟩ := everyDecodedWordIsTheEncodingOfItsInstruction fmt w i h
  cases fmt
  case cmd => exact listed_cmd hlt hwf henc
  case blockHdr => exact listed_blockHdr henc
  case fixedLL7 => exact listed_fixedLL7 hwf henc
  case fixedLL8 => exact listed_fixedLL8 hwf henc
  case fixedLL9 => exact listed_fixedLL9 hwf henc
  case fixedD5 => exact listed_dist (by decide) (by decide) hwf henc
  case llSym => exact listed_llSym hwf henc
  case dSym => exact listed_dist (by decide) (by decide) hwf henc
  case clSym => exact listed_clSym hwf henc
  case zlibCmf => exact listed_zlibCmf hwf henc
  case zlibFlg => exact listed_zlibFlg hwf henc
  case filterType => exact listed_filterType hwf henc
  case dispose u =>
    cases u
    case check => exact listed_dispose hwf henc
    all_goals exact absurd (by decide) hlater
  case blend u =>
    cases u
    case check => exact listed_blend hwf henc
    case paint => exact absurd (by decide) hlater
  case blendMode => exact listed_blendMode henc
  case tblSel => exact listed_tblSel henc
  case color => exact listed_color henc

/-! ### What is in the table decodes -/

/-- The words of a code space the rows of the table lie in, where they are one range of it. -/
def codeRange : Format → Nat × Nat
  | .cmd | .zlibCmf | .zlibFlg | .color => (0, 0)
  | .blockHdr => (0, 8)
  | .fixedLL7 => (0, 0x18)
  | .fixedLL8 => (0x30, 0xC8)
  | .fixedLL9 => (0x190, 0x200)
  | .fixedD5 | .dSym => (0, 32)
  | .llSym => (0, 288)
  | .clSym => (0, 19)
  | .filterType | .dispose _ | .blend _ => (0, 256)
  | .blendMode | .tblSel => (0, 4)

theorem decodeLLSym_ok (hw : w < 288) : ∃ i, decodeLLSym w = .ok i := by
  unfold decodeLLSym
  split_ifs
  case neg => omega
  all_goals exact ⟨_, rfl⟩

theorem decode_ok_of_codeRange {fmt : Format} (hlo : (codeRange fmt).1 ≤ w) (hhi : w < (codeRange fmt).2) :
    ∃ i, decode fmt w = .ok i := by
  cases fmt <;> simp only [codeRange] at hlo hhi <;> simp only [decode]
  case cmd | zlibCmf | zlibFlg | color => omega
  case blockHdr | blendMode | tblSel => interval_cases w <;> exact ⟨_, rfl⟩
  case fixedLL7 =>
    rw [decodeFixedLL7, if_pos (by omega)]
    exact decodeLLSym_ok (by omega)
  case fixedLL8 =>
    unfold decodeFixedLL8
    split_ifs
    · exact decodeLLSym_ok (by omega)
    · exact decodeLLSym_ok (by omega)
    · omega
  case fixedLL9 =>
    rw [decodeFixedLL9, if_pos (by omega)]
    exact decodeLLSym_ok (by omega)
  case llSym => exact decodeLLSym_ok hhi
  case fixedD5 | dSym | clSym => interval_cases w <;> exact ⟨_, rfl⟩
  case filterType =>
    obtain hlow | hlow := Nat.lt_or_ge w 5
    · interval_cases w <;> exact ⟨_, rfl⟩
    · exact ⟨_, decodeFilterType_invalid hlow hhi⟩
  case dispose u =>
    obtain hlow | hlow := Nat.lt_or_ge w 3
    · interval_cases w <;> exact ⟨_, rfl⟩
    · exact ⟨_, decodeDispose_invalid u hlow hhi⟩
  case blend u =>
    obtain hlow | hlow := Nat.lt_or_ge w 2
    · interval_cases w <;> exact ⟨_, rfl⟩
    · exact ⟨_, decodeBlend_invalid u hlow hhi⟩

theorem decodeZlibCmf_of_mask (hw : w < 256) (h : w &&& 0x8F = 8) : decodeZlibCmf w = .ok (.zlibCmfOk (w / 16)) := by
  rw [decodeZlibCmf, if_neg (by omega), if_pos ((cmf_mask_iff hw).1 h)]

theorem decodeZlibFlg_of_mask (hw : w < 256) (h : w &&& 0x20 = 0) :
    decodeZlibFlg w = .ok (.zlibFlgFdictClear (w / 64) (w % 32)) := by
  rw [decodeZlibFlg, if_neg (by omega), if_neg (flg_mask_iff.1 h)]

/-- R200: a row of the format table covers one word, its pattern. -/
theorem decode_ok_of_covers_color {r : OpcodeRow} (hr : r ∈ opcodeRows) (hfmt : r.fmt = .color) (h : r.covers w = true) :
    ∃ i, decode .color w = .ok i := by
  have hrows : ∀ r ∈ opcodeRows, r.fmt = .color →
      r.isBlock = true ∧ r.size = 1 ∧ (decode .color r.pattern).toOption.isSome = true := by decide
  obtain ⟨hblock, hsize, hok⟩ := hrows r hr hfmt
  obtain ⟨-, hlo, hhi⟩ := (OpcodeRow.covers_iff_of_isBlock hblock).1 h
  obtain rfl : w = r.pattern := by omega
  cases hdec : decode .color r.pattern with
  | ok i => exact ⟨i, rfl⟩
  | error _ => rw [hdec] at hok; cases hok

theorem decode_ok_of_covers {r : OpcodeRow} (hr : r ∈ opcodeRows) (h : r.covers w = true) :
    ∃ i, decode r.fmt w = .ok i := by
  have hcmf : ∀ r ∈ opcodeRows, r.fmt = .zlibCmf → r.pattern = 8 ∧ r.mask = 0x8F := by decide
  have hflg : ∀ r ∈ opcodeRows, r.fmt = .zlibFlg → r.pattern = 0 ∧ r.mask = 0x20 := by decide
  have hrange : ∀ r ∈ opcodeRows, r.fmt ∉ [.cmd, .zlibCmf, .zlibFlg, .color] →
      r.isBlock = true ∧ (codeRange r.fmt).1 ≤ r.pattern ∧ r.pattern + r.size ≤ (codeRange r.fmt).2 := by decide
  obtain ⟨hlt, hand⟩ := OpcodeRow.covers_iff.1 h
  by_cases hfmt : r.fmt ∈ [.cmd, .zlibCmf, .zlibFlg, .color]
  · simp only [List.mem_cons, List.not_mem_nil, or_false] at hfmt
    obtain hfmt | hfmt | hfmt | hfmt := hfmt <;> rw [hfmt] at hlt ⊢
    · exact decode_cmd_ok hlt
    · obtain ⟨hpat, hmask⟩ := hcmf r hr hfmt
      rw [hpat, hmask] at hand
      exact ⟨_, decodeZlibCmf_of_mask hlt hand⟩
    · obtain ⟨hpat, hmask⟩ := hflg r hr hfmt
      rw [hpat, hmask] at hand
      exact ⟨_, decodeZlibFlg_of_mask hlt hand⟩
    · exact decode_ok_of_covers_color hr hfmt h
  · obtain ⟨hblock, hlo, hhi⟩ := hrange r hr hfmt
    obtain ⟨-, hfirst, hlast⟩ := (OpcodeRow.covers_iff_of_isBlock hblock).1 h
    exact decode_ok_of_codeRange (by omega) (by omega)

/-! ### No word is in two rows -/

/-- The rows differ in a bit that both fix, or are of different code spaces. -/
abbrev OpcodeRow.Apart (r r' : OpcodeRow) : Prop := r.fmt = r'.fmt → r.pattern &&& r'.mask ≠ r'.pattern &&& r.mask

theorem eq_of_covers {r r' : OpcodeRow} (hr : r ∈ opcodeRows) (hr' : r' ∈ opcodeRows) (hfmt : r.fmt = r'.fmt)
    (h : r.covers w = true) (h' : r'.covers w = true) : r = r' := by
  have hsymm : Std.Symm OpcodeRow.Apart := ⟨fun r r' hapart heq hand => hapart heq.symm hand.symm⟩
  have hapart : opcodeRows.Pairwise OpcodeRow.Apart := by decide
  by_contra hne
  refine hapart.forall hr hr' hne hfmt ?_
  rw [← (OpcodeRow.covers_iff.1 h).2, ← (OpcodeRow.covers_iff.1 h').2, Nat.and_right_comm]

end

/-- Settles O3: what a row covers decodes, what decodes is listed, and the row that lists it can only be that row. -/
theorem decoderAgreesWithTheOpcodeTable : Obligations.DecoderAgreesWithTheOpcodeTable := by
  refine ⟨fun r hr w h => ?_, fun fmt w i h hlater => listed_of_decode h hlater,
    fun r hr r' hr' w hfmt h h' => eq_of_covers hr hr' hfmt h h'⟩
  have hfirst : ∀ r ∈ opcodeRows, r.fmt ∉ laterUses := by decide
  obtain ⟨i, hdec⟩ := decode_ok_of_covers hr h
  obtain ⟨r', hr', hfmt, h', hname⟩ := listed_of_decode hdec (hfirst r hr)
  rw [eq_of_covers hr hr' hfmt.symm h h']
  exact ⟨i, by rw [hfmt]; exact hdec, hname.symm⟩

end Sys2Proof
end

section
/-! PROOFS. The operand tables, the block header and the fixed codes: what the stream's elements are read with. -/

namespace Sys2Proof.Machine

open Sys2Proof.Claims

/-! ### The operand tables (R110, R112) -/

/-- Settles O5: the tables of R110 and R112, entry by entry. -/
theorem lengthAndDistanceRangesJoin : Obligations.LengthAndDistanceRangesJoin := by
  refine ⟨rfl, fun s hlo hhi => ?_, rfl, rfl, rfl, rfl, by decide, rfl⟩
  have htable : ∀ k < 27, lbase (257 + k) + 2 ^ lextra (257 + k) = lbase (257 + k + 1) := by decide
  obtain ⟨k, rfl⟩ := Nat.exists_eq_add_of_le hlo
  exact htable k (by omega)

/-! ### The block header (R103, R104) -/

/-- R103: BFINAL and BTYPE are read one after the other and make one field of three bits. -/
theorem fetchHeader_eq (s : State) : fetchHeader s =
    if s.engine.cur + 3 ≤ 8 * s.engine.inlen then .ok (.blockHdr, s.bitsAt s.engine.cur 3, s.atCur (s.engine.cur + 3))
    else .error (malformed 0x0201) := by
  have hread := fun w cur => fieldsAreReadLeastSignificantBitFirst s w cur
  rw [fetchHeader, hread 1]
  by_cases hfinal : s.engine.cur + 1 ≤ 8 * s.engine.inlen
  · rw [if_pos (.inr hfinal)]
    dsimp only
    rw [hread 2]
    by_cases htype : s.engine.cur + 3 ≤ 8 * s.engine.inlen
    · rw [if_pos (.inr htype), if_pos htype]
      have hword : s.bitsAt s.engine.cur 1 + 2 * s.bitsAt (s.engine.cur + 1) 2 = s.bitsAt s.engine.cur 3 := by
        rw [s.bitsAt_succ _ 2, s.bitsAt_succ _ 0, show s.bitsAt (s.engine.cur + 1) 0 = 0 from rfl]
        omega
      dsimp only
      rw [hword]
    · rw [if_neg (by omega), if_neg htype]
  · rw [if_neg (by omega), if_neg (by omega)]

/-- Settles O12: the two fields of a header are one, and each of its eight values names its block. -/
theorem blockHeadersAreThreeBits : Obligations.BlockHeadersAreThreeBits := by
  refine ⟨fun s hphase => ?_, fun bfinal btype i hblock h hlt hfinal htype => ?_⟩
  · rw [fetch, hphase]
    exact fetchHeader_eq s
  · obtain rfl : h = bfinal.toNat + 2 * btype := by omega
    simp only [List.mem_cons, Prod.mk.injEq, List.not_mem_nil, or_false] at hblock
    obtain ⟨rfl, rfl⟩ | ⟨rfl, rfl⟩ | ⟨rfl, rfl⟩ | ⟨rfl, rfl⟩ := hblock <;> cases bfinal <;> rfl

/-! ### The fixed codes (R115, R116) -/

/-- The symbol the last `k` bits of a code lead to from a node of a table with these entries (R149), if they lead to one
and no fewer of them do. -/
def symbolOf (entry : Nat → Nat) (n code : Nat) : (k node : Nat) → Option Nat
  | 0, _ => none
  | k + 1, node =>
    let e := entry (2 * node + code / 2 ^ k % 2)
    if e < n then if k = 0 then some e else none
    else if n < e - n + 2 then none
    else symbolOf entry n code k (e - n)

theorem codeAt_succ {bit : Nat → Nat} {cur k code : Nat} (h : CodeAt bit cur (k + 1) code) :
    bit cur = code / 2 ^ k % 2 ∧ CodeAt bit (cur + 1) k code := by
  refine ⟨h 0 (by omega), fun i hi => ?_⟩
  have hbit := h (i + 1) (by omega)
  rwa [show cur + (i + 1) = cur + 1 + i by omega, show k + 1 - 1 - (i + 1) = k - 1 - i by omega] at hbit

/-- A walk over the bits of a code goes where the code leads. -/
theorem walkTable_of_symbolOf {bit : Nat → Nat} {T : List (BitVec 10)} {entry : Nat → Nat}
    (hentry : ∀ j, (T.getD j 0).toNat = entry j) {n code k left cur node sym : Nat} (hcode : CodeAt bit cur k code)
    (hleft : k ≤ left) (h : symbolOf entry n code k node = some sym) :
    walkTable bit T n left cur node = .ok (sym, cur + k) := by
  induction k generalizing left cur node with
  | zero => cases h
  | succ k ih =>
    obtain ⟨left, rfl⟩ := Nat.exists_eq_add_of_le' (show 1 ≤ left by omega)
    obtain ⟨hbit, hrest⟩ := codeAt_succ hcode
    rw [symbolOf] at h
    rw [walkTable]
    simp only [hentry, hbit]
    split_ifs at h with hsym hlast hnode
    · cases h
      rw [if_pos hsym, hlast]
    · rw [if_neg hsym, if_neg hnode, ih hrest (by omega) h]
      congr 2
      omega

/-- A table as one number, an entry to every ten bits: the kernel looks an entry up in it by one division. -/
def packed (T : List (BitVec 10)) : Nat := Nat.ofDigits 1024 (T.map BitVec.toNat)

theorem getD_eq_packed (T : List (BitVec 10)) (j : Nat) : (T.getD j 0).toNat = packed T / 1024 ^ j % 1024 := by
  induction T generalizing j with
  | nil => simp [packed]
  | cons e T ih =>
    have hcons : packed (e :: T) = e.toNat + 1024 * packed T := Nat.ofDigits_cons
    have he : e.toNat < 1024 := e.isLt
    rw [hcons]
    cases j with
    | zero =>
      rw [List.getD_cons_zero]
      omega
    | succ j =>
      rw [List.getD_cons_succ, ih, pow_succ', ← Nat.div_div_eq_div_mul,
        show (e.toNat + 1024 * packed T) / 1024 = packed T by omega]

theorem symbolOf_fll : ∀ sym < 288,
    symbolOf (fun j => packed fll / 1024 ^ j % 1024) 288 (fixedCode sym).2 (fixedCode sym).1 0 = some sym := by
  decide +kernel

theorem symbolOf_fd : ∀ sym < 32, symbolOf (fun j => packed fd / 1024 ^ j % 1024) 32 sym 5 0 = some sym := by
  decide +kernel

/-- Settles O10: every code leads through its table to its symbol, and a walk follows the code. -/
theorem fixedCodesDecodeTheirSymbols : Obligations.FixedCodesDecodeTheirSymbols :=
  ⟨fun sym hsym _ _ _ hleft hcode => walkTable_of_symbolOf (getD_eq_packed fll) hcode hleft (symbolOf_fll sym hsym),
   fun sym hsym _ _ _ hleft hcode => walkTable_of_symbolOf (getD_eq_packed fd) hcode hleft (symbolOf_fd sym hsym)⟩

end Sys2Proof.Machine
end

section
/-! PROOFS. The Huffman engine: what an insertion leaves in the builder's slots, and from it what every accepted table
decodes; the canonical codes; and the empty code. -/

namespace Sys2Proof.Machine

open Sys2Proof.Claims

/-! ### The slots of a build (R143, R144) -/

theorem getD_set_self {α : Type} {l : List α} {i : Nat} {v d : α} (h : i < l.length) : (l.set i v).getD i d = v := by
  simp [List.getD_eq_getElem?_getD, h]

theorem getD_set_ne {α : Type} {l : List α} {i j : Nat} {v d : α} (h : i ≠ j) : (l.set i v).getD j d = l.getD j d := by
  simp [List.getD_eq_getElem?_getD, List.getElem?_set_ne h]

/-- A builder whose slots hold only entries that name a symbol or a row up to n − 2 (R143, R149), as 2n − 2 is the largest
that does, and which stands at a row it has. -/
structure Build.Fits (n : Nat) (b : Build) : Prop where
  length : b.slots.length = 2 * n
  node : b.node < n
  entry : ∀ j e, b.slots.getD j none = some e → e + 2 ≤ 2 * n

/-- Filled slots keep their entries. -/
def SlotsKept (old new : List (Option Nat)) : Prop := ∀ j e, old.getD j none = some e → new.getD j none = some e

/-- In these slots the last `k` bits of a code lead from row `node` over internal nodes to the leaf of `sym` (R144). -/
def Leads (slots : List (Option Nat)) (n code sym : Nat) : (k node : Nat) → Prop
  | 0, _ => False
  | k + 1, node => ∃ e, slots.getD (2 * node + code / 2 ^ k % 2) none = some e ∧
      if k = 0 then e = sym else n ≤ e ∧ Leads slots n code sym k (e - n)

theorem SlotsKept.refl (slots : List (Option Nat)) : SlotsKept slots slots := fun _ _ h => h

theorem SlotsKept.trans {a b c : List (Option Nat)} (hab : SlotsKept a b) (hbc : SlotsKept b c) : SlotsKept a c :=
  fun j e h => hbc j e (hab j e h)

theorem SlotsKept.set {slots : List (Option Nat)} {slot : Nat} (hempty : slots.getD slot none = none) (v : Option Nat) :
    SlotsKept slots (slots.set slot v) := by
  intro j e h
  have hne : slot ≠ j := fun heq => by rw [heq, h] at hempty; cases hempty
  rwa [getD_set_ne hne]

theorem Leads.mono {old new : List (Option Nat)} (hkept : SlotsKept old new) {n code sym k node : Nat}
    (h : Leads old n code sym k node) : Leads new n code sym k node := by
  induction k generalizing node with
  | zero => exact h
  | succ k ih =>
    obtain ⟨e, hslot, hrest⟩ := h
    refine ⟨e, hkept _ _ hslot, ?_⟩
    split_ifs at hrest ⊢
    · exact hrest
    · exact ⟨hrest.1, ih hrest.2⟩

theorem Build.Fits.slot_lt {n : Nat} {b : Build} (h : b.Fits n) (code k : Nat) :
    2 * b.node + code / 2 ^ k % 2 < b.slots.length := by
  have hnode := h.node
  rw [h.length]
  omega

theorem Build.Fits.at_node {n : Nat} {b : Build} (h : b.Fits n) {node : Nat} (hnode : node < n) :
    Build.Fits n { b with node := node } :=
  { h with node := hnode }

/-- Filling a slot with a fitting entry, and going on at a row of the table. -/
theorem Build.Fits.fill {n : Nat} {b b' : Build} (h : b.Fits n) {slot v : Nat} (hv : v + 2 ≤ 2 * n)
    (hslots : b'.slots = b.slots.set slot (some v)) (hnode : b'.node < n) : b'.Fits n where
  length := by rw [hslots, List.length_set, h.length]
  node := hnode
  entry := by
    intro j e hentry
    rw [hslots] at hentry
    by_cases hj : slot = j
    · by_cases hlt : slot < b.slots.length
      · rw [← hj, getD_set_self hlt] at hentry
        cases hentry
        exact hv
      · rw [List.set_eq_of_length_le (Nat.le_of_not_lt hlt)] at hentry
        exact h.entry j e hentry
    · rw [getD_set_ne hj] at hentry
      exact h.entry j e hentry

/-- R144: what inserting one more bit of a code does: the last bit fills an empty slot with the leaf; an earlier one
allocates the next row in an empty slot, or goes on at the row its slot names. -/
theorem insertCode_succ_ok {n sym code k : Nat} {b b' : Build} (h : insertCode n sym code (k + 1) b = .ok b') :
    (b.slots.getD (2 * b.node + code / 2 ^ k % 2) none = none ∧ k = 0 ∧
      b' = { b with slots := b.slots.set (2 * b.node + code / 2 ^ k % 2) (some sym) }) ∨
    (b.slots.getD (2 * b.node + code / 2 ^ k % 2) none = none ∧ k ≠ 0 ∧ b.nodesUsed + 2 ≤ n ∧
      insertCode n sym code k
        { b with slots := b.slots.set (2 * b.node + code / 2 ^ k % 2) (some (n + b.nodesUsed)), node := b.nodesUsed,
                 nodesUsed := b.nodesUsed + 1 } = .ok b') ∨
    ∃ e, b.slots.getD (2 * b.node + code / 2 ^ k % 2) none = some e ∧ k ≠ 0 ∧ n ≤ e ∧
      insertCode n sym code k { b with node := e - n } = .ok b' := by
  rw [insertCode] at h
  split at h
  · next hempty =>
    split_ifs at h with hlast hfull
    · cases h
      exact .inl ⟨hempty, hlast, rfl⟩
    · exact .inr (.inl ⟨hempty, hlast, Nat.le_of_not_lt hfull, h⟩)
  · next e hfilled =>
    split_ifs at h with hlast hleaf
    exact .inr (.inr ⟨e, hfilled, hlast, Nat.le_of_not_lt hleaf, h⟩)

/-- R144: an insertion keeps what is there, and then the code leads to its symbol. -/
theorem insertCode_ok {n sym code k : Nat} {b b' : Build} (hb : b.Fits n) (hsym : sym < n)
    (h : insertCode n sym code k b = .ok b') :
    b'.Fits n ∧ SlotsKept b.slots b'.slots ∧ (k ≠ 0 → Leads b'.slots n code sym k b.node) := by
  induction k generalizing b with
  | zero =>
    cases h
    exact ⟨hb, .refl _, fun hk => absurd rfl hk⟩
  | succ k ih =>
    have hlt := hb.slot_lt code k
    obtain ⟨hempty, rfl, rfl⟩ | ⟨hempty, hk, hroom, hrest⟩ | ⟨e, hfilled, hk, hnode, hrest⟩ := insertCode_succ_ok h
    · exact ⟨hb.fill (v := sym) (by omega) rfl hb.node, .set hempty _, fun _ => ⟨sym, getD_set_self hlt, rfl⟩⟩
    · obtain ⟨hfits, hkept, hleads⟩ := ih (hb.fill (v := n + b.nodesUsed) (by omega) rfl (by dsimp only; omega)) hrest
      refine ⟨hfits, (SlotsKept.set hempty _).trans hkept, fun _ => ⟨_, hkept _ _ (getD_set_self hlt), ?_⟩⟩
      rw [if_neg hk, Nat.add_sub_cancel_left]
      exact ⟨Nat.le_add_right .., hleads hk⟩
    · have hentry := hb.entry _ _ hfilled
      obtain ⟨hfits, hkept, hleads⟩ := ih (hb.at_node (by omega)) hrest
      refine ⟨hfits, hkept, fun _ => ⟨e, hkept _ _ hfilled, ?_⟩⟩
      rw [if_neg hk]
      exact ⟨hnode, hleads hk⟩

/-- R144: after every symbol from `sym` on is inserted, each of their codes leads to its symbol. -/
theorem insertCodes_ok {n sym : Nat} {lens codes : List Nat} {b b' : Build} (hb : b.Fits n)
    (hcodes : codes.length = lens.length) (hsym : sym + lens.length ≤ n)
    (h : insertCodes n sym lens codes b = .ok b') :
    b'.Fits n ∧ SlotsKept b.slots b'.slots ∧
      ∀ i < lens.length, lens.getD i 0 ≠ 0 → Leads b'.slots n (codes.getD i 0) (sym + i) (lens.getD i 0) 0 := by
  induction lens generalizing sym codes b with
  | nil =>
    obtain rfl := List.length_eq_zero_iff.1 hcodes
    cases h
    exact ⟨hb, .refl _, fun i hi => absurd hi (Nat.not_lt_zero i)⟩
  | cons l lens ih =>
    obtain ⟨c, codes, rfl⟩ := List.exists_cons_of_length_eq_add_one hcodes
    rw [List.length_cons] at hsym
    rw [insertCodes] at h
    split at h
    · cases h
    next b₁ hfirst =>
    obtain ⟨hfits, hkept, hleads⟩ := insertCode_ok (hb.at_node (by omega)) (by omega) hfirst
    obtain ⟨hfits', hkept', hleads'⟩ := ih hfits (by simpa using hcodes) (by omega) h
    refine ⟨hfits', hkept.trans hkept', fun i hi hlen => ?_⟩
    cases i with
    | zero => exact (hleads hlen).mono hkept'
    | succ i =>
      rw [show sym + (i + 1) = sym + 1 + i by omega]
      exact hleads' i (Nat.lt_of_succ_lt_succ hi) hlen

theorem length_assignCodes (lens next : List Nat) : (assignCodes lens next).1.length = lens.length := by
  induction lens generalizing next with
  | nil => rfl
  | cons l lens ih =>
    rw [assignCodes]
    split <;> simp [ih]

theorem Build.fits_start {lens : List Nat} (h : 1 ≤ lens.length) : (Build.start lens).Fits lens.length where
  length := List.length_replicate
  node := h
  entry := by
    intro j e hentry
    have hnone : (Build.start lens).slots.getD j none = none := List.getElem?_getD_replicate_default_eq ..
    cases hnone.symm.trans hentry

/-- R144, R150: the table of an accepted length array is the slots of a build that fits, in which every code leads to
its symbol. -/
theorem buildTable_ok {lens : List Nat} {T : List (BitVec 10)} {b : Build} (hlen : 1 ≤ lens.length)
    (h : buildTable lens = .ok (T, b)) :
    T = b.slots.map entryOf ∧ b.Fits lens.length ∧
      ∀ sym < lens.length, lens.getD sym 0 ≠ 0 →
        Leads b.slots lens.length ((Build.start lens).code.getD sym 0) sym (lens.getD sym 0) 0 := by
  unfold buildTable at h
  split at h
  · cases h
  next hbuild =>
  cases h
  have hcodes : (Build.start lens).code.length = lens.length := length_assignCodes ..
  obtain ⟨hfits, -, hleads⟩ := insertCodes_ok (Build.fits_start hlen) hcodes (by omega) hbuild
  refine ⟨rfl, hfits, fun sym hsym hne => ?_⟩
  simpa only [Nat.zero_add] using hleads sym hsym hne

/-! ### Walks of a built table (R147, R149) -/

theorem Build.Fits.toNat_entry {n : Nat} {b : Build} (h : b.Fits n) (hn : n ≤ 288) (j : Nat) :
    ((b.slots.map entryOf).getD j 0).toNat = (b.slots.getD j none).getD 0 := by
  have hmap : (b.slots.map entryOf).getD j 0 = entryOf (b.slots.getD j none) := List.getD_map b.slots none entryOf
  rw [hmap, entryOf, BitVec.toNat_ofNat]
  cases hslot : b.slots.getD j none with
  | none => rfl
  | some e =>
    have := h.entry j e hslot
    exact Nat.mod_eq_of_lt (by simp only [Option.getD_some]; omega)

/-- A path through the slots is one through the entries of the table. -/
theorem Leads.symbolOf {n : Nat} {b : Build} (hb : b.Fits n) {code sym k node : Nat} (hsym : sym < n)
    (h : Leads b.slots n code sym k node) :
    symbolOf (fun j => (b.slots.getD j none).getD 0) n code k node = some sym := by
  induction k generalizing node with
  | zero => exact h.elim
  | succ k ih =>
    obtain ⟨e, hslot, hrest⟩ := h
    have hentry := hb.entry _ _ hslot
    simp only [Machine.symbolOf, hslot, Option.getD_some]
    split_ifs at hrest with hlast
    · subst hrest
      rw [if_pos hsym, if_pos hlast]
    · obtain ⟨hnode, hleads⟩ := hrest
      rw [if_neg (by omega), if_neg (by omega), ih hleads]

/-- R149: a table whose entries all name a symbol or a row up to n − 2 never raises 0x0602. -/
theorem walkTable_ne_beyond {bit : Nat → Nat} {T : List (BitVec 10)} {n : Nat}
    (hentry : ∀ j, (T.getD j 0).toNat + 2 ≤ 2 * n) (left cur node : Nat) :
    walkTable bit T n left cur node ≠ .error (malformed 0x0602) := by
  induction left generalizing cur node with
  | zero => exact fun h => by cases h
  | succ left ih =>
    have := hentry (2 * node + bit cur)
    rw [walkTable]
    split_ifs with hleaf hbeyond
    · exact fun h => by cases h
    · omega
    · exact ih _ _

/-- Settles O7: every code leads through the builder's slots to its symbol, and no slot names a row past the last. -/
theorem acceptedTablesDecodeEverySymbol : Obligations.AcceptedTablesDecodeEverySymbol := by
  intro lens T b hlo hhi _ h
  obtain ⟨rfl, hfits, hleads⟩ := buildTable_ok hlo h
  have hentry := hfits.toNat_entry hhi
  refine ⟨fun sym bit cur left hsym hne hleft hcode => ?_, fun bit cur left _ => walkTable_ne_beyond (fun j => ?_) _ _ _⟩
  · exact walkTable_of_symbolOf hentry hcode hleft ((hleads sym hsym hne).symbolOf hfits hsym)
  · rw [hentry]
    cases hslot : b.slots.getD j none with
    | none => simp only [Option.getD_none]; omega
    | some e => exact hfits.entry j e hslot

/-! ### Canonical codes (R146) -/

theorem getD_countLengths (lens : List Nat) {l : Nat} (hl : l < 16) :
    (countLengths lens).getD l 0 = if l = 0 then 0 else lens.count l := by
  simp [countLengths, List.getD_eq_getElem?_getD, hl, List.count]

theorem getD_firstCodes (bl : List Nat) {l : Nat} (hl : l < 16) : (firstCodes bl).getD l 0 = firstCode bl l := by
  simp [firstCodes, List.getD_eq_getElem?_getD, hl]

/-- R146: the running sum in closed form: each count has been left-shifted once per length since its own. -/
theorem firstCode_eq_sum (bl : List Nat) (L : Nat) :
    firstCode bl L = ((List.range L).map (fun l => bl.getD l 0 * 2 ^ (L - l))).sum := by
  induction L with
  | zero => rfl
  | succ L ih =>
    rw [firstCode, ih, List.range_succ, List.map_append, List.sum_append, Nat.add_mul, ← List.sum_map_mul_right]
    congr 2
    · refine List.map_congr_left fun l hl => ?_
      rw [Nat.succ_sub (List.mem_range.1 hl).le, pow_succ, Nat.mul_assoc]
    · simp

/-- R146: a symbol takes the next code of its length, which each earlier symbol of that length has moved on by one. -/
theorem getD_assignCodes {lens next : List Nat} (hlens : ∀ l ∈ lens, l < next.length) {sym : Nat}
    (hsym : sym < lens.length) (hne : lens.getD sym 0 ≠ 0) :
    (assignCodes lens next).1.getD sym 0 =
      next.getD (lens.getD sym 0) 0 + (lens.take sym).count (lens.getD sym 0) := by
  induction lens generalizing next sym with
  | nil => exact absurd hsym (Nat.not_lt_zero sym)
  | cons l lens ih =>
    obtain ⟨hl, hlens⟩ := List.forall_mem_cons.1 hlens
    cases sym with
    | zero =>
      rw [List.getD_cons_zero] at hne ⊢
      rw [assignCodes, if_neg hne]
      rfl
    | succ sym =>
      have hsym := Nat.lt_of_succ_lt_succ hsym
      rw [List.getD_cons_succ] at hne ⊢
      rw [List.take_succ_cons, assignCodes]
      by_cases hzero : l = 0
      · rw [if_pos hzero, List.count_cons_of_ne (by omega)]
        exact ih hlens hsym hne
      · have hrest := ih (next := next.set l (next.getD l 0 + 1)) (by simpa using hlens) hsym hne
        rw [if_neg hzero]
        refine hrest.trans ?_
        by_cases hsame : l = lens.getD sym 0
        · rw [← hsame, getD_set_self hl, List.count_cons_self]
          omega
        · rw [getD_set_ne hsame, List.count_cons_of_ne hsame]

/-- Settles O6: codes are given out in symbol order, and the first of each length is the running sum in closed form. -/
theorem canonicalCodesAreConsecutivePerLength : Obligations.CanonicalCodesAreConsecutivePerLength := by
  intro lens hlens
  refine ⟨fun sym hsym hne => ?_, fun L _ hL => ?_⟩
  · have hlen : lens.getD sym 0 ≤ 15 := by
      rw [List.getD_eq_getElem _ _ hsym]
      exact hlens _ (List.getElem_mem hsym)
    have hnext : (firstCodes (countLengths lens)).length = 16 := by simp [firstCodes]
    have hcode := getD_assignCodes (next := firstCodes (countLengths lens))
      (fun l hl => by rw [hnext]; exact Nat.lt_succ_of_le (hlens l hl)) hsym hne
    rwa [getD_firstCodes _ (by omega)] at hcode
  · rw [firstCode_eq_sum]
    congr 1
    refine List.map_congr_left fun l hl => ?_
    have := List.mem_range.1 hl
    rw [getD_countLengths _ (by omega), ite_mul, Nat.zero_mul]

/-! ### The empty code (R147, R150) -/

/-- R144: a length of 0 never makes an entry. -/
theorem insertCodes_zeros {n sym k : Nat} {codes : List Nat} {b : Build} (hnode : b.node = 0) :
    insertCodes n sym (List.replicate k 0) codes b = .ok b := by
  induction k generalizing sym codes with
  | zero => cases codes <;> rfl
  | succ k ih =>
    have hb : { b with node := 0 } = b := by rw [← hnode]
    cases codes with
    | nil => rfl
    | cons c codes =>
      rw [List.replicate_succ, insertCodes, insertCode]
      dsimp only
      rw [hb, ih]

theorem buildTable_zeros (n : Nat) :
    buildTable (List.replicate n 0) = .ok (List.replicate (2 * n) 0, Build.start (List.replicate n 0)) := by
  have hslots : (Build.start (List.replicate n 0)).slots = List.replicate (2 * n) none := by simp [Build.start]
  rw [buildTable, insertCodes_zeros rfl]
  dsimp only
  rw [hslots, List.map_replicate]
  rfl

/-- Settles O8: no symbol is inserted, and the zero-filled root resolves every bit to symbol 0. -/
theorem emptyCodesDecodeSymbolZero : Obligations.EmptyCodesDecodeSymbolZero := by
  intro n hn
  refine ⟨_, buildTable_zeros n, fun bit cur left _ => ?_⟩
  have hentry : (List.replicate (2 * n) (0 : BitVec 10)).getD (2 * 0 + bit cur) 0 = 0 :=
    List.getElem?_getD_replicate_default_eq ..
  rw [walkTable, hentry]
  exact if_pos hn

end Sys2Proof.Machine
end

section
/-! PROOFS. The Inflate only advances: what each of its elements does to its cursors and to OUT when it raises no error. -/

namespace Sys2Proof.Machine

/-! ### Advancing (R142, R182) -/

/-- R160: what an Inflate is started on, its input and its capacity. -/
def Engine.given (e : Engine) : Nat × Nat × Nat := (e.inbase, e.inlen, e.cap)

theorem Engine.given_eq_iff {e e' : Engine} :
    e.given = e'.given ↔ e.inbase = e'.inbase ∧ e.inlen = e'.inlen ∧ e.cap = e'.cap := by
  simp [Engine.given]

/-- R142, R55, R182: from `s` to `t` the input cursor does not go back, the input and the capacity are the same, and bytes
are at most emitted to OUT, from the old `pos` up to the new one and within the capacity. -/
structure State.Advances (s t : State) : Prop where
  cur : s.engine.cur ≤ t.engine.cur
  pos : s.engine.pos ≤ t.engine.pos
  fits : s.engine.pos ≤ s.engine.cap → t.engine.pos ≤ t.engine.cap
  given : t.engine.given = s.engine.given
  out : ∀ a, a < s.engine.pos ∨ t.engine.pos ≤ a → t.rd .out a = s.rd .out a

/-- A body that raises no error advances. -/
def BodyAdvances (s : State) (body : Except Err State) : Prop := ∀ t, body = .ok t → s.Advances t

/-- An outcome that is a next state with no error set advances. -/
def NextAdvances (s : State) (o : Host.Outcome State Fault Refusal) : Prop :=
  ∀ t, o = .next t → t.status.error = false → s.Advances t

namespace State.Advances

variable {s t u : State}

theorem trans (h : s.Advances t) (h' : t.Advances u) : s.Advances u where
  cur := h.cur.trans h'.cur
  pos := h.pos.trans h'.pos
  fits := fun hfit => h'.fits (h.fits hfit)
  given := h'.given.trans h.given
  out := by
    intro a ha
    have hpos := h.pos
    have hpos' := h'.pos
    exact (h'.out a (by omega)).trans (h.out a (by omega))

/-- An element that emits nothing. -/
theorem of_mems_eq (hmems : t.mems = s.mems) (hcur : s.engine.cur ≤ t.engine.cur) (hpos : t.engine.pos = s.engine.pos)
    (hgiven : t.engine.given = s.engine.given) : s.Advances t where
  cur := hcur
  pos := hpos.ge
  fits := by
    obtain ⟨-, -, hcap⟩ := Engine.given_eq_iff.1 hgiven
    rw [hpos, hcap]
    exact id
  given := hgiven
  out := fun a _ => by rw [State.rd, State.rd, hmems]

theorem goto (s : State) (p : Phase) : s.Advances (s.goto p) := .of_mems_eq rfl le_rfl rfl rfl

/-- An element that emits `n` bytes. -/
theorem emit {e : Engine} {m : Mem} {n : Nat} (hcur : s.engine.cur ≤ e.cur) (hpos : e.pos = s.engine.pos + n)
    (hfit : s.engine.pos + n ≤ s.engine.cap) (hgiven : e.given = s.engine.given)
    (hout : ∀ a, a < s.engine.pos ∨ s.engine.pos + n ≤ a → Mem.read m a = Mem.read s.mems.out a) :
    s.Advances ((s.setMem .out m).setEngine e) where
  cur := hcur
  pos := by
    rw [setEngine_engine, hpos]
    exact Nat.le_add_right ..
  fits := by
    obtain ⟨-, -, hcap⟩ := Engine.given_eq_iff.1 hgiven
    rw [setEngine_engine, hpos, hcap]
    exact fun _ => hfit
  given := hgiven
  out := by
    rw [setEngine_engine, hpos]
    exact hout

end State.Advances

theorem BodyAdvances.error {s : State} (e : Err) : BodyAdvances s (.error e) := fun _ h => nomatch h

theorem BodyAdvances.ok {s t : State} (h : s.Advances t) : BodyAdvances s (.ok t) := fun _ heq => by cases heq; exact h

theorem BodyAdvances.after {s t : State} {body : Except Err State} (hbody : BodyAdvances t body) (h : s.Advances t) :
    BodyAdvances s body :=
  fun u heq => h.trans (hbody u heq)

/-- R283: a raised error leaves ERROR set, so without one the outcome is the body's state. -/
theorem BodyAdvances.settle {s s' : State} {body : Except Err State} (h : BodyAdvances s body) :
    NextAdvances s (settle s' body) := by
  intro t heq hok
  obtain ⟨t', hbody, hsettle⟩ | ⟨e, -, hsettle⟩ := settle_cases s' body <;> cases hsettle.symm.trans heq
  · exact h _ hbody
  · rw [(raise_spec e s').status] at hok
    cases hok

theorem NextAdvances.next {s t : State} (h : s.Advances t) : NextAdvances s (.next t) := fun _ heq _ => by
  cases heq; exact h

theorem NextAdvances.raise (s s' : State) (e : Err) : NextAdvances s (.next (raise e s')) :=
  (BodyAdvances.error e).settle

/-! ### What the elements do (R160 to R179) -/

theorem State.readBits_cur {s : State} {w cur v cur' : Nat} (h : s.readBits w cur = .ok (v, cur')) : cur ≤ cur' := by
  obtain ⟨-, heq, -⟩ := State.readBits_ok h
  omega

theorem State.readClLens_cur {s : State} {order clLen clLen' : List Nat} {cur cur' : Nat}
    (h : s.readClLens order clLen cur = .ok (clLen', cur')) : cur ≤ cur' := by
  induction order generalizing clLen cur with
  | nil => cases h; exact le_rfl
  | cons j order ih =>
    rw [State.readClLens] at h
    split at h
    · cases h
    · next hread => exact (State.readBits_cur hread).trans (ih h)

/-- R177: the copy writes from `pos` on, one byte for each of its length. -/
theorem read_copyLoop_out {start dist left pos back a : Nat} {m : Mem} (ha : a < pos ∨ pos + left ≤ a) :
    Mem.read (copyLoop start dist left pos back m) a = Mem.read m a := by
  induction left generalizing pos back m with
  | zero => rfl
  | succ left ih => rw [copyLoop, ih (by omega), Mem.read_write, if_neg (by omega)]

section
variable (s : State)

theorem advances_endInflate : BodyAdvances s (endInflate s) := by
  unfold endInflate
  dsimp only
  split_ifs
  · exact .error _
  · exact .ok (.of_mems_eq rfl le_rfl rfl rfl)
  · exact .ok (.of_mems_eq rfl le_rfl rfl rfl)

theorem advances_endBlock : BodyAdvances s (endBlock s) := by
  unfold endBlock
  split
  · exact advances_endInflate s
  · exact .ok (.goto s .hdr)

theorem advances_storedBlock : BodyAdvances s (storedBlock s) := by
  unfold storedBlock
  dsimp only
  split_ifs with hhdr hlen hin hout
  · exact .error _
  · exact .error _
  · exact .error _
  · exact .error _
  · refine .ok (.emit (n := s.payload16 s.storedAt) ?_ rfl (by omega) rfl fun a ha => Mem.read_fill_out ha)
    simp only [State.storedAt, ceilDiv]
    omega

theorem advances_bodyStored : BodyAdvances s (bodyStored s) := by
  unfold bodyStored
  split
  · exact .error _
  · next hblock => exact (advances_endBlock _).after (advances_storedBlock s _ hblock)

theorem advances_buildInto (id : TableId) (before : List TableId) (lens : List Nat) :
    BodyAdvances s (buildInto id before lens s) := by
  obtain ⟨e, -, heq⟩ | ⟨entries, b, -, heq⟩ := buildInto_cases id before lens s <;> rw [heq]
  · exact .error _
  · exact .ok (.of_mems_eq rfl le_rfl rfl rfl)

theorem advances_dynamicHeader : BodyAdvances s (dynamicHeader s) := by
  unfold dynamicHeader
  split
  · exact .error _
  next hlit =>
  split
  · exact .error _
  next hdist =>
  split
  · exact .error _
  next hclen =>
  split
  · exact .error _
  next hlens =>
  have hcounts := ((State.readBits_cur hlit).trans (State.readBits_cur hdist)).trans (State.readBits_cur hclen)
  dsimp only
  split
  · exact .error _
  · next hbuild =>
    refine .ok (.trans (.trans ?_ (advances_buildInto _ _ _ _ _ hbuild)) (.goto _ _))
    exact .of_mems_eq rfl (hcounts.trans (State.readClLens_cur hlens)) rfl rfl

theorem advances_buildBlockTables : BodyAdvances s (buildBlockTables s) := by
  unfold buildBlockTables
  split
  · exact .error _
  next hll =>
  split
  · exact .error _
  · next hd => exact .ok (((advances_buildInto _ _ _ _ _ hll).trans (advances_buildInto _ _ _ _ _ hd)).trans (.goto _ _))

theorem advances_nextCodeLength : BodyAdvances s (nextCodeLength s) := by
  unfold nextCodeLength
  split
  · exact .ok (.goto _ _)
  · exact advances_buildBlockTables s

theorem advances_setLens (lens : List Nat) :
    BodyAdvances s (nextCodeLength (s.setEngine { s.engine with lens := lens })) :=
  (advances_nextCodeLength _).after (.of_mems_eq rfl le_rfl rfl rfl)

theorem advances_repeatCount (base width v : Nat) : BodyAdvances s (repeatCount base width v s) := by
  unfold repeatCount
  split
  · exact .error _
  next hread =>
  unfold repeatFill
  split
  · exact .error _
  · exact (advances_setLens _ _).after (.of_mems_eq rfl (State.readBits_cur hread) rfl rfl)

theorem advances_bodyClRepeatPrev : BodyAdvances s (bodyClRepeatPrev s) := by
  unfold bodyClRepeatPrev
  split
  · exact .error _
  · exact advances_repeatCount s _ _ _

theorem advances_bodyLit (v : Nat) : BodyAdvances s (bodyLit v s) := by
  unfold bodyLit
  split
  · exact .error _
  · exact .ok (.emit le_rfl rfl (by omega) rfl fun a ha => Mem.read_fill_out ha)

theorem advances_bodyLen (sym : Nat) : BodyAdvances s (bodyLen sym s) := by
  unfold bodyLen
  split
  · exact .error _
  · next hread => exact .ok (.of_mems_eq rfl (State.readBits_cur hread) rfl rfl)

theorem advances_bodyDist (dsym : Nat) : BodyAdvances s (bodyDist dsym s) := by
  unfold bodyDist
  split
  · exact .error _
  next hread =>
  dsimp only
  split_ifs with hback hfit
  · exact .error _
  · exact .error _
  · exact .ok (.emit (State.readBits_cur hread) rfl (Nat.le_of_not_lt hfit) rfl fun a ha => read_copyLoop_out ha)

end

/-! ### What an element's word does -/

section
variable {s : State} {w : Nat} {i : Instr}

theorem advances_blockHdr (hdec : decode .blockHdr w = .ok i) : NextAdvances s (exec i s) := by
  obtain ⟨-, henc⟩ := decodeBlockHdr_eq_ok_iff.1 hdec
  have hlatch (b t) : s.Advances (s.latchHeader b t) := .of_mems_eq rfl le_rfl rfl rfl
  unfold encodeBlockHdr at henc
  split at henc
  · exact ((advances_bodyStored _).after (hlatch _ 0)).settle
  · exact .next (.of_mems_eq rfl le_rfl rfl rfl)
  · exact ((advances_dynamicHeader _).after (hlatch _ 2)).settle
  · exact (BodyAdvances.error _).settle
  · cases henc

theorem advances_clSym (hdec : decode .clSym w = .ok i) : NextAdvances s (exec i s) := by
  obtain ⟨-, henc⟩ := decodeCLSym_eq_ok_iff.1 hdec
  unfold encodeCLSym at henc
  split at henc
  · exact (advances_setLens s _).settle
  · exact (advances_bodyClRepeatPrev s).settle
  · exact (advances_repeatCount s 3 3 0).settle
  · exact (advances_repeatCount s 11 7 0).settle
  · cases henc

theorem advances_llSym (hdec : decode .llSym w = .ok i) : NextAdvances s (exec i s) := by
  obtain ⟨-, henc⟩ := decodeLLSym_eq_ok_iff.1 hdec
  unfold encodeLLSym at henc
  split at henc
  · exact (advances_bodyLit s _).settle
  · exact (advances_endBlock s).settle
  · next sym =>
    show NextAdvances s (settle s (bodyLen sym s))
    exact (advances_bodyLen s sym).settle
  · exact (BodyAdvances.error _).settle
  · cases henc

theorem advances_dSym (hdec : decode .dSym w = .ok i) : NextAdvances s (exec i s) := by
  obtain ⟨-, henc⟩ := decodeDSym_eq_ok_iff.1 hdec
  unfold encodeDSym at henc
  split at henc
  · exact (advances_bodyDist s _).settle
  · exact (BodyAdvances.error _).settle
  · cases henc

end

/-- The code spaces of the Inflate's elements (R161, R167, R171, R175). -/
def inflateFormats : List Format := [.blockHdr, .clSym, .llSym, .dSym]

theorem advances_exec {s : State} {fmt : Format} (hfmt : fmt ∈ inflateFormats) {w : Nat} {i : Instr}
    (hdec : decode fmt w = .ok i) : NextAdvances s (exec i s) := by
  simp only [inflateFormats, List.mem_cons, List.not_mem_nil, or_false] at hfmt
  obtain rfl | rfl | rfl | rfl := hfmt
  · exact advances_blockHdr hdec
  · exact advances_clSym hdec
  · exact advances_llSym hdec
  · exact advances_dSym hdec

/-! ### The engine's step -/

/-- R149: reading a symbol consumes at least one bit. -/
theorem fetchSymbol_cur {s t : State} {fmt fmt' : Format} {table : List (BitVec 10)} {n w : Nat}
    (h : fetchSymbol fmt table n s = .ok (fmt', w, t)) :
    fmt' = fmt ∧ ∃ cur, t = s.atCur cur ∧ s.engine.cur < cur := by
  unfold fetchSymbol at h
  split at h
  · cases h
  next hsym =>
  cases h
  obtain ⟨-, hlt, -⟩ := State.decodeSymbol_ok hsym
  exact ⟨rfl, _, rfl, hlt⟩

/-- R142, R161, R149: reading an element of the Inflate consumes at least one bit. -/
theorem fetch_inflate {s t : State} (hp : s.engine.phase ∈ inflatePhases) {fmt : Format} {w : Nat}
    (h : fetch s = .ok (fmt, w, t)) : fmt ∈ inflateFormats ∧ ∃ cur, t = s.atCur cur ∧ s.engine.cur < cur := by
  simp only [inflatePhases, List.mem_cons, List.not_mem_nil, or_false] at hp
  unfold fetch at h
  obtain hp | hp | hp | hp := hp <;> rw [hp] at h
  · rw [fetchHeader_eq] at h
    split_ifs at h
    cases h
    exact ⟨by decide, _, rfl, by omega⟩
  all_goals
    obtain ⟨rfl, hcur⟩ := fetchSymbol_cur h
    exact ⟨by decide, hcur⟩

/-- An element of the Inflate that raises no error has read at least one bit, and has only advanced from there. -/
theorem engineStep_inflate {s t : State} (hbounds : s.inBounds = true) (hp : s.engine.phase ∈ inflatePhases)
    (h : engineStep s = .next t) (hok : t.status.error = false) :
    ∃ cur, s.engine.cur < cur ∧ (s.atCur cur).Advances t := by
  rw [engineStep, if_pos hbounds] at h
  split at h
  · exact ⟨s.engine.cur + 1, Nat.lt_succ_self _, NextAdvances.raise _ _ _ t h hok⟩
  next hfetch =>
  obtain ⟨hfmt, cur, rfl, hcur⟩ := fetch_inflate hp hfetch
  refine ⟨cur, hcur, ?_⟩
  split at h
  · next hdec => exact advances_exec hfmt hdec t h hok
  split at h
  · exact NextAdvances.raise _ _ _ t h hok
  · cases h

/-- Settles O20: the element's read consumes input, and its body only advances. -/
theorem inflateElementsOnlyAdvance : Obligations.InflateElementsOnlyAdvance := by
  intro s t hbounds hp h hok _
  obtain ⟨cur, hread, hadv⟩ := engineStep_inflate hbounds hp h hok
  rw [State.inBounds_inflate hp, Bool.and_eq_true, State.inflateFits_iff] at hbounds
  obtain ⟨-, -, -, hpos, -⟩ := hbounds
  obtain ⟨hbase, hlen, hcap⟩ := Engine.given_eq_iff.1 hadv.given
  exact ⟨hread.trans_le hadv.cur, hadv.pos, hadv.fits hpos, hbase, hlen, hcap, hadv.out⟩

end Sys2Proof.Machine
end

section
/-! PROOFS. The constant tables: the builder with its slots packed into one number, which the kernel runs on the fixed
lengths. -/

namespace Sys2Proof.Machine

/-! ### A builder with packed slots -/

/-- A slot as a digit: 0 for EMPTY, one more than its entry otherwise. -/
def slotDigit : Option Nat → Nat
  | none => 0
  | some e => e + 1

theorem slotDigit_none : slotDigit none = 0 := rfl

theorem slotDigit_some (e : Nat) : slotDigit (some e) = e + 1 := rfl

/-- What an insertion reads and writes of the builder (R57), the slots as one number: the kernel reads one by a division
and fills an EMPTY one by an addition. -/
structure PackedBuild where
  slots : Nat
  nodesUsed : Nat
  node : Nat

def Build.pack (b : Build) : PackedBuild :=
  { slots := Nat.ofDigits 1024 (b.slots.map slotDigit), nodesUsed := b.nodesUsed, node := b.node }

/-- `insertCode` on packed slots. -/
def insertPacked (n sym code : Nat) : (k : Nat) → PackedBuild → Except Err PackedBuild
  | 0, p => .ok p
  | k + 1, p =>
    let slot := 2 * p.node + code / 2 ^ k % 2
    let digit := p.slots / 1024 ^ slot % 1024
    if digit = 0 then
      if k = 0 then .ok { p with slots := p.slots + (sym + 1) * 1024 ^ slot }
      else if n < p.nodesUsed + 2 then .error (malformed 0x0501)
      else
        insertPacked n sym code k
          { slots := p.slots + (n + p.nodesUsed + 1) * 1024 ^ slot, node := p.nodesUsed, nodesUsed := p.nodesUsed + 1 }
    else if k = 0 then .error (malformed 0x0502)
    else if digit - 1 < n then .error (malformed 0x0502)
    else insertPacked n sym code k { p with node := digit - 1 - n }

/-- `insertCodes` on packed slots. -/
def insertCodesPacked (n : Nat) : (sym : Nat) → (lens codes : List Nat) → PackedBuild → Except Err PackedBuild
  | sym, l :: lens, c :: codes, p =>
    match insertPacked n sym c l { p with node := 0 } with
    | .error e => .error e
    | .ok p => insertCodesPacked n (sym + 1) lens codes p
  | _, _, _, p => .ok p

/-- The entries of the table that packed slots stand for (R150). -/
def PackedBuild.table (n : Nat) (p : PackedBuild) : List (BitVec 10) :=
  (List.range (2 * n)).map (fun j => BitVec.ofNat 10 (p.slots / 1024 ^ j % 1024 - 1))

/-! ### It runs as the builder does -/

theorem ofDigits_div_pow_mod {b : Nat} {digits : List Nat} (h : ∀ d ∈ digits, d < b) (j : Nat) (hb : 0 < b) :
    Nat.ofDigits b digits / b ^ j % b = digits.getD j 0 := by
  rw [Nat.ofDigits_div_pow_eq_ofDigits_drop j hb digits h, Nat.ofDigits_mod_eq_head!]
  obtain hj | hj := Nat.lt_or_ge j digits.length
  · rw [List.drop_eq_getElem_cons hj, List.getD_eq_getElem _ _ hj]
    exact Nat.mod_eq_of_lt (h _ (List.getElem_mem hj))
  · rw [List.drop_eq_nil_of_le hj, List.getD_eq_default _ _ hj]
    exact Nat.zero_mod b

theorem ofDigits_set {b i v : Nat} {digits : List Nat} (hi : i < digits.length) (hzero : digits.getD i 0 = 0) :
    Nat.ofDigits b (digits.set i v) = Nat.ofDigits b digits + v * b ^ i := by
  induction digits generalizing i with
  | nil => exact absurd hi (Nat.not_lt_zero i)
  | cons d digits ih =>
    cases i with
    | zero =>
      obtain rfl : d = 0 := hzero
      simp [Nat.ofDigits_cons, Nat.add_comm]
    | succ i =>
      rw [List.set_cons_succ, Nat.ofDigits_cons, Nat.ofDigits_cons, ih (Nat.lt_of_succ_lt_succ hi) hzero, pow_succ]
      ring

theorem getD_map_slotDigit (slots : List (Option Nat)) (j : Nat) :
    (slots.map slotDigit).getD j 0 = slotDigit (slots.getD j none) :=
  List.getD_map slots none slotDigit

namespace Build.Fits

variable {n : Nat} {b : Build} (h : b.Fits n) (hn : n ≤ 288)
include h hn

theorem pack_digit (j : Nat) : b.pack.slots / 1024 ^ j % 1024 = slotDigit (b.slots.getD j none) := by
  refine (ofDigits_div_pow_mod (fun d hd => ?_) j (by decide)).trans (getD_map_slotDigit _ _)
  obtain ⟨slot, hslot, rfl⟩ := List.mem_map.1 hd
  obtain ⟨i, hi, rfl⟩ := List.mem_iff_getElem.1 hslot
  cases hentry : b.slots[i] with
  | none => decide
  | some e =>
    have := h.entry i e (by rw [List.getD_eq_getElem _ _ hi, hentry])
    rw [slotDigit_some]
    omega

theorem table_pack : b.pack.table n = b.slots.map entryOf := by
  have hentry : ∀ slot, entryOf slot = BitVec.ofNat 10 (slotDigit slot - 1) := fun slot => by cases slot <;> rfl
  refine List.ext_getElem (by simp [PackedBuild.table, h.length]) fun j hj hj' => ?_
  rw [List.length_map] at hj'
  simp only [PackedBuild.table, List.getElem_map, List.getElem_range, h.pack_digit hn, hentry,
    List.getD_eq_getElem _ _ hj']

end Build.Fits

/-- Filling an EMPTY slot adds its digit. -/
theorem ofDigits_fill {slots : List (Option Nat)} {slot : Nat} (hlt : slot < slots.length)
    (hempty : slots.getD slot none = none) (v : Nat) :
    Nat.ofDigits 1024 ((slots.set slot (some v)).map slotDigit) =
      Nat.ofDigits 1024 (slots.map slotDigit) + (v + 1) * 1024 ^ slot := by
  rw [List.map_set]
  exact ofDigits_set (by rwa [List.length_map]) (by rw [getD_map_slotDigit, hempty]; rfl)

theorem insertCode_pack {n sym code k : Nat} {b : Build} (hb : b.Fits n) (hn : n ≤ 288) :
    (insertCode n sym code k b).map Build.pack = insertPacked n sym code k b.pack := by
  induction k generalizing b with
  | zero => rfl
  | succ k ih =>
    have hlt := hb.slot_lt code k
    have hdigit := hb.pack_digit hn (2 * b.node + code / 2 ^ k % 2)
    rw [insertCode, insertPacked]
    simp only [show b.pack.node = b.node from rfl, show b.pack.nodesUsed = b.nodesUsed from rfl, hdigit]
    cases hslot : b.slots.getD (2 * b.node + code / 2 ^ k % 2) none with
    | none =>
      have hfill := ofDigits_fill hlt hslot
      dsimp only
      rw [if_pos slotDigit_none]
      split_ifs with hlast hfull
      · simp only [Except.map, Build.pack, hfill]
      · rfl
      · rw [ih (hb.fill (v := n + b.nodesUsed) (by omega) rfl (by dsimp only; omega))]
        simp only [Build.pack, hfill]
    | some e =>
      have hentry := hb.entry _ _ hslot
      dsimp only
      rw [slotDigit_some, if_neg (Nat.succ_ne_zero e), Nat.add_sub_cancel]
      split_ifs
      · rfl
      · rfl
      · exact ih (hb.at_node (by omega))

theorem insertCodes_pack {n sym : Nat} {lens codes : List Nat} {b : Build} (hb : b.Fits n) (hn : n ≤ 288)
    (hsym : sym + lens.length ≤ n) :
    (insertCodes n sym lens codes b).map Build.pack = insertCodesPacked n sym lens codes b.pack := by
  induction lens generalizing sym codes b with
  | nil => cases codes <;> rfl
  | cons l lens ih =>
    cases codes with
    | nil => rfl
    | cons c codes =>
      rw [List.length_cons] at hsym
      have hroot := hb.at_node (node := 0) (by omega)
      rw [insertCodes, insertCodesPacked, show { b.pack with node := 0 } = Build.pack { b with node := 0 } from rfl,
        ← insertCode_pack hroot hn]
      cases hfirst : insertCode n sym c l { b with node := 0 } with
      | error e => rfl
      | ok b₁ =>
        obtain ⟨hfits, -, -⟩ := insertCode_ok hroot (by omega) hfirst
        exact ih hfits (by omega)

/-- The build on packed slots (R144). -/
def buildPacked (lens : List Nat) : Except Err PackedBuild :=
  insertCodesPacked lens.length 0 lens (Build.start lens).code { slots := 0, nodesUsed := 1, node := 0 }

theorem buildTable_eq_packed {lens : List Nat} (hlo : 1 ≤ lens.length) (hhi : lens.length ≤ 288) :
    (buildTable lens).map (fun r => (r.1, r.2.nodesUsed)) =
      (buildPacked lens).map (fun p => (p.table lens.length, p.nodesUsed)) := by
  have hstart : (Build.start lens).pack = { slots := 0, nodesUsed := 1, node := 0 } := by
    simp [Build.pack, Build.start, slotDigit]
  have hfits := Build.fits_start hlo
  rw [buildPacked, ← hstart, ← insertCodes_pack hfits hhi (by omega), buildTable]
  cases hbuild : insertCodes lens.length 0 lens (Build.start lens).code (Build.start lens) with
  | error e => rfl
  | ok b =>
    obtain ⟨hb, -, -⟩ := insertCodes_ok hfits (length_assignCodes ..) (by omega) hbuild
    simp only [Except.map, hb.table_pack hhi]
    rfl

/-! ### The fixed lengths (R152) -/

theorem buildPacked_fixedLLLens :
    (buildPacked fixedLLLens).map (fun p => (p.table fixedLLLens.length, p.nodesUsed)) = .ok (fll, 287) := by
  decide +kernel

theorem buildPacked_fixedDLens :
    (buildPacked fixedDLens).map (fun p => (p.table fixedDLens.length, p.nodesUsed)) = .ok (fd, 31) := by
  decide +kernel

/-- Settles O9: the packed builder builds what the builder does, and the kernel runs it on the fixed lengths. -/
theorem fixedTablesAreTheBuiltFixedLengths : Obligations.FixedTablesAreTheBuiltFixedLengths :=
  ⟨(buildTable_eq_packed (by simp [fixedLLLens]) (by simp [fixedLLLens])).trans buildPacked_fixedLLLens,
   (buildTable_eq_packed (by decide) (by decide)).trans buildPacked_fixedDLens⟩

end Sys2Proof.Machine
end

section
/-! PROOFS. The Inflate's blocks: an error raised after the header is latched, the end of a block, the stored block, and the
whole of a one-block stored stream. -/

namespace Sys2Proof.Machine

open Sys2Proof.Claims

/-! ### Raising and keeping -/

/-- A body's error is the instruction's. -/
theorem raises_of_error {i : Instr} {e : Err} {s : State} {body : Except Err State} (hexec : exec i s = settle s body)
    (herr : body = .error e) : Raises i e s :=
  ⟨raise e s, by rw [hexec, herr, settle_error], raise_spec e s⟩

/-- R161: the two latched header fields are working registers that no part of an error's effect depends on. -/
theorem Raised.of_latchHeader {e : Err} {s t : State} {b : Bool} {ty : BitVec 2} (h : Raised e (s.latchHeader b ty) t) :
    Raised e s t :=
  ⟨h.status, h.site, h.regs, h.positions, h.outSize, h.mems, h.out, h.tables, h.rest⟩

theorem raises_of_latched_error {i : Instr} {e : Err} {s : State} {b : Bool} {ty : BitVec 2} {body : Except Err State}
    (hexec : exec i s = settle (s.latchHeader b ty) body) (herr : body = .error e) : Raises i e s :=
  ⟨raise e (s.latchHeader b ty), by rw [hexec, herr, settle_error], (raise_spec e _).of_latchHeader⟩

/-- Writes of OUT alone keep all else the host can see, STATUS and the registers apart. -/
theorem keeps_setOut (s : State) (m : Mem) : Keeps [.out] [] s (s.setMem .out m) where
  mems id hid a := by rw [State.rd_setMem, if_neg (by simpa using hid)]
  tables _ _ := rfl
  host := ⟨rfl, rfl, rfl, rfl⟩

theorem Keeps.setEngine {ms : List MemId} {ts : List TableId} {s t : State} (h : Keeps ms ts s t) (e : Engine) :
    Keeps ms ts s (t.setEngine e) :=
  ⟨h.mems, h.tables, h.host⟩

/-- What comes after changes no memory or table RAM. -/
theorem Keeps.trans {ms : List MemId} {ts : List TableId} {s t u : State} (h : Keeps ms ts s t) (h' : Keeps [] [] t u) :
    Keeps ms ts s u where
  mems id hid a := (h'.mems id List.not_mem_nil a).trans (h.mems id hid a)
  tables id hid := (h'.tables id List.not_mem_nil).trans (h.tables id hid)
  host := by
    obtain ⟨hbus, hrdata, hfree, hparams⟩ := h.host
    obtain ⟨hbus', hrdata', hfree', hparams'⟩ := h'.host
    exact ⟨hbus'.trans hbus, hrdata'.trans hrdata, hfree'.trans hfree, hparams'.trans hparams⟩

/-! ### The end of a block (R160, R161, R264) -/

/-- R264: only a final block that leaves a DECODE_FRAME short of its buffer fails to end. -/
theorem endBlock_short {s : State} (hfinal : s.engine.bfinal = true) (hop : s.runningOp = 4)
    (hpos : s.engine.pos ≠ s.engine.cap) : endBlock s = .error (malformed 0x0A06) := by
  rw [endBlock, if_pos hfinal]
  exact (if_pos hop).trans (if_pos hpos)

theorem endBlock_ok {s : State} (hfull : s.engine.bfinal = true → s.runningOp = 4 → s.engine.pos = s.engine.cap) :
    ∃ t, endBlock s = .ok t ∧ BlockEnded s.engine.bfinal s.engine s t ∧ Keeps [] [] s t := by
  have hkeeps {t : State} (hmems : t.mems = s.mems) (htables : t.tables = s.tables)
      (hhost : t.bus = s.bus ∧ t.rdata = s.rdata ∧ t.free = s.free ∧ t.params = s.params) : Keeps [] [] s t :=
    ⟨fun _ _ _ => by rw [State.rd, State.rd, hmems], fun _ _ => by rw [htables], hhost⟩
  rw [endBlock]
  cases hfinal : s.engine.bfinal with
  | false => exact ⟨s.goto .hdr, rfl, ⟨rfl, rfl, rfl⟩, hkeeps rfl rfl ⟨rfl, rfl, rfl, rfl⟩⟩
  | true =>
    rw [if_pos rfl]
    simp only [BlockEnded, if_true]
    by_cases hop : s.runningOp = 4
    · simp only [if_pos hop]
      exact ⟨_, (if_pos hop).trans (if_neg (not_not.2 (hfull hfinal hop))), ⟨rfl, rfl, rfl⟩,
        hkeeps rfl rfl ⟨rfl, rfl, rfl, rfl⟩⟩
    · simp only [if_neg hop]
      exact ⟨_, if_neg hop, ⟨rfl, rfl, rfl⟩, hkeeps rfl rfl ⟨rfl, rfl, rfl, rfl⟩⟩

/-- Settles O47: symbol 256 is the end of a block and nothing else. -/
theorem endOfBlockReturnsToTheBlockLoop : Obligations.EndOfBlockReturnsToTheBlockLoop := by
  intro s
  refine ⟨fun hfinal hop hpos => raises_of_error (body := endBlock s) rfl (endBlock_short hfinal hop hpos), fun hfull => ?_⟩
  obtain ⟨t, hok, hended⟩ := endBlock_ok hfull
  exact ⟨t, by show settle s (endBlock s) = _; rw [hok, settle_ok], hended⟩

/-! ### Stored blocks (R163) -/

/-- R163: `s` after the `len` bytes after the header at byte `p` are copied. -/
def State.storedDone (s : State) (p len : Nat) : State :=
  (s.setMem .out (s.storedCopy p len)).setEngine
    { s.engine with pos := s.engine.pos + len, cur := (p + 4 + len) * 8 }

/-- R163: the bytes copied stand in OUT from `pos` on, and no other byte of OUT changes. -/
theorem State.rd_storedDone (s : State) (p len a : Nat) : (s.storedDone p len).rd .out a =
    if s.engine.pos ≤ a ∧ a < s.engine.pos + len then s.rd .inp (s.engine.inbase + p + 4 + (a - s.engine.pos))
    else s.rd .out a := by
  show Mem.read (s.storedCopy p len) a = _
  rw [State.storedCopy, Mem.read_fill]
  rfl

theorem keeps_storedDone (s : State) (p len : Nat) : Keeps [.out] [] s (s.storedDone p len) :=
  (keeps_setOut s _).setEngine _

/-- R163, R105: the checks of a stored block in their order, and its copy; the latched header plays no part in them. -/
theorem storedBlock_latchHeader {s : State} {p len nlen : Nat} (b : Bool) (hp : s.storedAt = p)
    (hlen : s.payload16 p = len) (hnlen : s.payload16 (p + 2) = nlen) : storedBlock (s.latchHeader b 0) =
      if s.engine.inlen < p + 4 then .error (malformed 0x0301)
      else if len ≠ nlen ^^^ 0xFFFF then .error (malformed 0x0302)
      else if s.engine.inlen < p + 4 + len then .error (malformed 0x0303)
      else if s.engine.cap < s.engine.pos + len then .error (malformed 0x0304)
      else .ok ((s.latchHeader b 0).storedDone p len) := by
  subst hp hlen hnlen
  rfl

/-- Settles O42: the checks are made in the state with the header latched, and what passes them copies and ends. -/
theorem storedBlocksCopyTheirBytes : Obligations.StoredBlocksCopyTheirBytes := by
  intro b s p byte len nlen e
  have hexec : exec (.stored b) s = settle (s.latchHeader b 0) (bodyStored (s.latchHeader b 0)) := rfl
  have hblock := storedBlock_latchHeader (p := p) (len := len) (nlen := nlen) b rfl rfl rfl
  have hraises {err : Err} (h : storedBlock (s.latchHeader b 0) = .error err) : Raises (.stored b) err s :=
    raises_of_latched_error hexec (by rw [bodyStored, h])
  have hcopied (hin : p + 4 + len ≤ s.engine.inlen) (hcompl : len = nlen ^^^ 0xFFFF)
      (hout : s.engine.pos + len ≤ s.engine.cap) :
      bodyStored (s.latchHeader b 0) = endBlock ((s.latchHeader b 0).storedDone p len) := by
    rw [bodyStored, hblock, if_neg (by omega), if_neg (not_not.2 hcompl), if_neg (by omega), if_neg (by omega)]
  refine ⟨fun hhdr => hraises ?_, fun hhdr hcompl => hraises ?_, fun hhdr hcompl hin => hraises ?_,
    fun hin hcompl hout => hraises ?_, fun hin hcompl hout hfinal hop hpos => ?_, fun hin hcompl hout hfull => ?_⟩
  · rw [hblock, if_pos hhdr]
  · rw [hblock, if_neg (by omega), if_pos hcompl]
  · rw [hblock, if_neg (by omega), if_neg (not_not.2 hcompl), if_pos hin]
  · rw [hblock, if_neg (by omega), if_neg (not_not.2 hcompl), if_neg (by omega), if_pos hout]
  · exact raises_of_latched_error hexec ((hcopied hin hcompl hout).trans (endBlock_short hfinal hop hpos))
  · obtain ⟨t, hok, hended, hkeeps⟩ := endBlock_ok (s := (s.latchHeader b 0).storedDone p len) hfull
    refine ⟨t, by rw [hexec, hcopied hin hcompl hout, hok, settle_ok], hended, ?_, fun a => ?_⟩
    · obtain ⟨hmems, htables, hhost⟩ := (keeps_storedDone (s.latchHeader b 0) p len).trans hkeeps
      exact ⟨hmems, htables, hhost⟩
    · exact (hkeeps.mems .out List.not_mem_nil a).trans (State.rd_storedDone _ p len a)

end Sys2Proof.Machine
end

section
/-! PROOFS. A one-block stored stream, from the command's start to its end. -/

namespace Sys2Proof.Machine

open Sys2Proof.Claims

/-! ### The command's start (R250, R252) -/

/-- R252: `s` after INFLATE_RAW has passed its prechecks. -/
def State.rawStarted (s : State) : State :=
  startInflate s.regs.inBase.toNat s.regs.inLen.toNat
    ((s.started 2).setEngine { s.engine with cap := s.regs.outSize.toNat })

theorem exec_inflateRaw {s : State} (hidle : s.idle)
    (hin : s.regs.inBase.toNat + s.regs.inLen.toNat ≤ s.params.inCap) (hout : s.regs.outSize.toNat ≤ s.params.outCap) :
    exec .inflateRaw s = .next s.rawStarted := by
  obtain ⟨hbusy, herror⟩ := hidle
  have hcheck : checkInflate (s.started 2) = .ok () := by
    have hin' : checkIn (s.started 2) = .ok () := if_neg (Nat.not_lt.2 hin)
    rw [checkInflate, hin']
    exact if_neg (Nat.not_lt.2 hout)
  have hbody : bodyInflateRaw (s.started 2) = .ok s.rawStarted := by
    rw [bodyInflateRaw, hcheck]
    rfl
  calc exec .inflateRaw s
    _ = settle (s.started 2) (bodyInflateRaw (s.started 2)) := by
      show startCommand 2 bodyInflateRaw s = _
      rw [startCommand, if_neg (by simp [hbusy])]
      exact if_neg (by simp [herror])
    _ = .next s.rawStarted := by rw [hbody, settle_ok]

/-! ### Steps -/

theorem engineStep_of_fetch {s t : State} {fmt : Format} {w : Nat} {i : Instr} (hbounds : s.inBounds = true)
    (hfetch : fetch s = .ok (fmt, w, t)) (hdec : decode fmt w = .ok i) : engineStep s = exec i t := by
  rw [engineStep, if_pos hbounds, hfetch]
  dsimp only
  rw [hdec]

theorem core_run_two {s t u : State} (hs : step s = .next t) (ht : step t = .next u) : core.run 2 s = .next u := by
  have hs' : core.step s = .next t := hs
  have ht' : core.step t = .next u := ht
  simp only [Host.Core.run, hs', ht']

/-! ### The stream (R163, R103) -/

/-- R163: NLEN is the complement of LEN. -/
theorem xor_ffff {n : Nat} (h : n < 65536) : (65535 - n) ^^^ 0xFFFF = n := by
  have hnot := congrArg BitVec.toNat (BitVec.xor_allOnes (x := BitVec.ofNat 16 (65535 - n)))
  rw [BitVec.toNat_xor, BitVec.toNat_not, BitVec.toNat_allOnes, BitVec.toNat_ofNat,
    Nat.mod_eq_of_lt (show 65535 - n < 2 ^ 16 by omega)] at hnot
  exact hnot.trans (by omega)

/-- R82 -/
theorem payload16_of_bytes {s : State} {p : Nat} {lo hi : Byte} (hlo : s.rd .inp (s.engine.inbase + p) = lo)
    (hhi : s.rd .inp (s.engine.inbase + p + 1) = hi) : s.payload16 p = lo.toNat + 256 * hi.toNat := by
  rw [State.payload16, hlo, hhi]

/-- R82: the two bytes of a 16-bit value. -/
theorem bytes_of_lt {n : Nat} (h : n < 65536) :
    (BitVec.ofNat 8 n).toNat + 256 * (BitVec.ofNat 8 (n / 256)).toNat = n := by
  simp only [BitVec.toNat_ofNat]
  omega

theorem complement_bytes_of_lt {n : Nat} (h : n < 65536) :
    (~~~ BitVec.ofNat 8 n).toNat + 256 * (~~~ BitVec.ofNat 8 (n / 256)).toNat = 65535 - n := by
  simp only [BitVec.toNat_not, BitVec.toNat_ofNat]
  omega

/-- R103: a byte 1 at the start of the payload is the header of a final stored block. -/
theorem bitsAt_header {s : State} (hbyte : s.rd .inp s.engine.inbase = 1) : s.bitsAt 0 3 = 1 := by
  have hbit (k : Nat) (hk : k < 8) : s.streamBit k = ((1 : Byte).getLsbD k).toNat := by
    rw [State.streamBit, Nat.div_eq_of_lt hk, Nat.mod_eq_of_lt hk, Nat.add_zero, hbyte]
  simp only [s.bitsAt_succ, hbit 0 (by decide), hbit 1 (by decide), hbit 2 (by decide)]
  rfl

/-- R163: the copy of a stored block, with its place and its lengths named. -/
theorem exec_stored_copies {b : Bool} {s : State} {p len nlen : Nat} (hp : (s.engine.cur + 7) / 8 = p)
    (hlen : s.payload16 p = len) (hnlen : s.payload16 (p + 2) = nlen) (hcompl : len = nlen ^^^ 0xFFFF)
    (hin : p + 4 + len ≤ s.engine.inlen) (hout : s.engine.pos + len ≤ s.engine.cap)
    (hfull : b = true → s.runningOp = 4 → s.engine.pos + len = s.engine.cap) :
    ∃ t, exec (.stored b) s = .next t ∧
      BlockEnded b { s.engine with bfinal := b, btype := 0, pos := s.engine.pos + len, cur := (p + 4 + len) * 8 } s t ∧
      Keeps [.out] [] s t ∧ ∀ a, t.rd .out a = if s.engine.pos ≤ a ∧ a < s.engine.pos + len
        then s.rd .inp (s.engine.inbase + p + 4 + (a - s.engine.pos)) else s.rd .out a := by
  subst hp hlen hnlen
  obtain ⟨-, -, -, -, -, hcopies⟩ := storedBlocksCopyTheirBytes b s
  exact hcopies hin hcompl hout hfull

/-- R24, R250: the host's write of the command word is a step, after which the Inflate stands at its first bit. -/
theorem step_writeCmd_inflateRaw {s : State} (hidle : s.idle) (hbus : s.bus = [])
    (hin : s.regs.inBase.toNat + s.regs.inLen.toNat ≤ s.params.inCap) (hout : s.regs.outSize.toNat ≤ s.params.outCap) :
    step (s.setBus [{ after := 0, op := wr32 s.params .cmd 2 }]) = .next s.rawStarted := by
  calc step (s.setBus [{ after := 0, op := wr32 s.params .cmd 2 }])
    _ = exec .inflateRaw (s.setBus []) := step_idle_writeCmd (rest := []) hidle.1 rfl rfl
    _ = exec .inflateRaw s := by rw [← hbus]; rfl
    _ = .next s.rawStarted := exec_inflateRaw hidle hin hout

/-- R161: the started Inflate reads the header of a final stored block and runs it. -/
theorem engineStep_rawStarted {s : State} (hbounds : s.rawStarted.inBounds = true) (hlen : 1 ≤ s.regs.inLen.toNat)
    (hhdr : s.rd .inp s.regs.inBase.toNat = 1) :
    engineStep s.rawStarted = exec (.stored true) (s.rawStarted.atCur 3) := by
  refine engineStep_of_fetch hbounds (fmt := .blockHdr) (w := 1) ?_ rfl
  show fetchHeader s.rawStarted = _
  have hbits : s.rawStarted.bitsAt s.rawStarted.engine.cur 3 = 1 := bitsAt_header hhdr
  rw [fetchHeader_eq, hbits]
  exact if_pos (show 0 + 3 ≤ 8 * s.regs.inLen.toNat by omega)

/-- Settles O43: the CMD write starts an Inflate at the stream's first bit, and its one element is the stored block. -/
theorem aStoredStreamYieldsItsBytes : Obligations.AStoredStreamYieldsItsBytes := by
  intro s data hinv hidle hbus hdata hcapIn hlenIn hfit hcapOut hhdr hlo hhi hnlo hnhi hbytes
  have hstart := step_writeCmd_inflateRaw hidle hbus hcapIn hcapOut
  have hbounds : s.rawStarted.inBounds = true :=
    (everyStepKeepsTheInvariant _ _ (hinv.setBus _) hstart).engine.1 rfl
  have hlen : (s.rawStarted.atCur 3).payload16 1 = data.length :=
    (payload16_of_bytes hlo hhi).trans (bytes_of_lt hdata)
  have hnlen : (s.rawStarted.atCur 3).payload16 3 = 65535 - data.length :=
    (payload16_of_bytes hnlo hnhi).trans (complement_bytes_of_lt hdata)
  obtain ⟨t, hexec, ⟨hregs, hended⟩, hkeeps, hout⟩ := exec_stored_copies (b := true)
    (show (3 + 7) / 8 = 1 from rfl) hlen hnlen (xor_ffff hdata).symm
    (show 1 + 4 + data.length ≤ s.regs.inLen.toNat by omega) (show 0 + data.length ≤ s.regs.outSize.toNat by omega)
    (fun _ hop => absurd hop (show (2#4).toNat ≠ 4 by decide))
  have hrun := (step_busy_nil (s := s.rawStarted) rfl hbus).trans
    ((engineStep_rawStarted hbounds (by omega) hhdr).trans hexec)
  refine ⟨t, core_run_two hstart hrun, ?_, ?_, ⟨hkeeps.mems, hkeeps.tables, hkeeps.host⟩, fun k hk => ?_,
    fun a ha => ?_⟩
  · obtain ⟨hstatus, -⟩ := hended
    rw [hstatus]
    exact congrArg (fun error => { busy := false, done := true, error := error, code := s.status.code : Status }) hidle.2
  · rw [hregs]
    exact congrArg₂ (fun pos cur => { s.regs with op := 2, outPos := BitVec.ofNat 32 pos, bitPos := BitVec.ofNat 32 cur })
      (Nat.zero_add data.length) (show (1 + 4 + data.length) * 8 = 8 * (5 + data.length) by omega)
  · rw [hout, if_pos ⟨Nat.zero_le k, hk.trans_eq (Nat.zero_add _).symm⟩]
    exact hbytes k hk
  · exact (hout a).trans (if_neg (show ¬ (0 ≤ a ∧ a < 0 + data.length) by omega))

end Sys2Proof.Machine
end

section
/-! PROOFS. The elements of a Huffman block: a literal, a length with its extra bits, a distance with its extra bits and its
copy. -/

namespace Sys2Proof.Machine

open Sys2Proof.Claims

/-! ### Fields (R78, R141) -/

theorem State.bitsAt_lt (s : State) (k w : Nat) : s.bitsAt k w < 2 ^ w := by
  induction w generalizing k with
  | zero => exact Nat.zero_lt_one
  | succ w ih =>
    have hbit := s.streamBit_le k
    have hrest := ih (k + 1)
    rw [s.bitsAt_succ, pow_succ]
    omega

theorem State.readBits_fits {s : State} {w cur : Nat} (h : w = 0 ∨ cur + w ≤ 8 * s.engine.inlen) :
    s.readBits w cur = .ok (s.bitsAt cur w, cur + w) :=
  (fieldsAreReadLeastSignificantBitFirst s w cur).trans (if_pos h)

theorem State.readBits_short {s : State} {w cur : Nat} (h : ¬ (w = 0 ∨ cur + w ≤ 8 * s.engine.inlen)) :
    s.readBits w cur = .error (malformed 0x0201) :=
  (fieldsAreReadLeastSignificantBitFirst s w cur).trans (if_neg h)

/-! ### Literals (R172, R179) -/

/-- Settles O46: the one check, and the one write. -/
theorem literalsWriteOneByte : Obligations.LiteralsWriteOneByte := by
  intro v s _
  refine ⟨fun hfull => raises_of_error (body := bodyLit v s) rfl (if_pos hfull), fun hroom => ?_⟩
  refine ⟨_, congrArg (settle s) (if_neg (Nat.not_le.2 hroom)), fun a => Mem.read_write .., rfl, rfl, rfl, ?_⟩
  exact (keeps_setOut s _).setEngine _

/-! ### Lengths (R174) -/

/-- R110: with all its extra bits a length symbol's range ends at most at 258. -/
theorem lbase_range {sym : Nat} (hlo : 257 ≤ sym) (hhi : sym ≤ 285) :
    3 ≤ lbase sym ∧ lbase sym + 2 ^ lextra sym ≤ 259 := by
  have htable : ∀ k < 29, 3 ≤ lbase (257 + k) ∧ lbase (257 + k) + 2 ^ lextra (257 + k) ≤ 259 := by decide
  obtain ⟨k, rfl⟩ := Nat.exists_eq_add_of_le hlo
  exact htable k (by omega)

theorem exec_len (sym : Nat) (s : State) : exec (.len sym) s = settle s (bodyLen sym s) := rfl

/-- Settles O48: the extra bits are one field, which is read or has a bit missing. -/
theorem lengthSymbolsGiveTheLength : Obligations.LengthSymbolsGiveTheLength := by
  intro sym s hlo hhi length
  obtain ⟨hmin, hmax⟩ := lbase_range hlo hhi
  have hextra := s.bitsAt_lt s.engine.cur (lextra sym)
  refine ⟨by omega, by omega, fun hfits => ?_, fun hpos hshort => ?_⟩
  · rw [exec_len]
    unfold bodyLen
    rw [State.readBits_fits hfits]
    rfl
  · refine raises_of_error (exec_len sym s) ?_
    unfold bodyLen
    rw [State.readBits_short (by omega)]

/-! ### Distances (R175 to R177) -/

/-- R112: with all its extra bits a distance symbol's range ends at most at 32768. -/
theorem dbase_range {d : Nat} (hd : d ≤ 29) : 1 ≤ dbase d ∧ dbase d + 2 ^ dextra d ≤ 32769 := by
  have htable : ∀ d < 30, 1 ≤ dbase d ∧ dbase d + 2 ^ dextra d ≤ 32769 := by decide
  exact htable d (by omega)

/-- R177: `back` catches up with `start` after every `dist` bytes. -/
theorem back_succ {start dist k : Nat} (hpos : 0 < dist) (hle : dist ≤ start) :
    (if start ≤ start - dist + k % dist + 1 then start - dist else start - dist + k % dist + 1) =
      start - dist + (k + 1) % dist := by
  have hlt := Nat.mod_lt k hpos
  rw [← Nat.mod_add_mod k dist 1]
  split_ifs with hwrap
  · rw [show k % dist + 1 = dist by omega, Nat.mod_self, Nat.add_zero]
  · rw [Nat.mod_eq_of_lt (show k % dist + 1 < dist by omega), Nat.add_assoc]

/-- R177: after `k` bytes of the copy, the bytes still to go; they are all read from before `start`, where nothing is
written. -/
theorem read_copyLoop {start dist left k a : Nat} {m : Mem} (hpos : 0 < dist) (hle : dist ≤ start) :
    Mem.read (copyLoop start dist left (start + k) (start - dist + k % dist) m) a =
      if start + k ≤ a ∧ a < start + k + left then Mem.read m (start - dist + (a - start) % dist) else Mem.read m a := by
  induction left generalizing k m with
  | zero => rw [if_neg (by omega)]; rfl
  | succ left ih =>
    have hsource (j : Nat) : start - dist + j % dist < start := by
      have := Nat.mod_lt j hpos
      omega
    rw [copyLoop, back_succ hpos hle, Nat.add_assoc, ih]
    simp only [Mem.read_write]
    rw [if_neg (show ¬ start - dist + (a - start) % dist = start + k from fun h => by have := hsource (a - start); omega)]
    by_cases ha : a = start + k
    · subst ha
      rw [if_neg (by omega), if_pos rfl, if_pos (by omega), Nat.add_sub_cancel_left]
    · rw [if_neg ha]
      exact if_congr (by omega) rfl rfl

theorem read_copyBack {pos length dist a : Nat} {m : Mem} (hpos : 0 < dist) (hle : dist ≤ pos) :
    Mem.read (copyBack pos length dist m) a =
      if pos ≤ a ∧ a < pos + length then Mem.read m (pos - dist + (a - pos) % dist) else Mem.read m a := by
  have h := read_copyLoop (left := length) (k := 0) (a := a) (m := m) hpos hle
  rwa [Nat.zero_mod] at h

/-- R175: once its extra bits are read, a distance symbol has the two checks of R176 and R179 and its copy left. -/
theorem bodyDist_fits {d : Nat} {s : State} (h : dextra d = 0 ∨ s.engine.cur + dextra d ≤ 8 * s.engine.inlen) :
    bodyDist d s =
      if s.engine.pos < dbase d + s.bitsAt s.engine.cur (dextra d) then .error (malformed 0x0704)
      else if s.engine.cap < s.engine.pos + s.engine.length then .error (malformed 0x0705)
      else .ok ((s.setMem .out (copyBack s.engine.pos s.engine.length (dbase d + s.bitsAt s.engine.cur (dextra d))
        s.mems.out)).setEngine { s.engine with phase := .syms, pos := s.engine.pos + s.engine.length,
                                               cur := s.engine.cur + dextra d }) := by
  rw [bodyDist, State.readBits_fits h]

/-- Settles O49: the extra bits are one field, then come the two checks and the copy. -/
theorem distanceSymbolsCopyBack : Obligations.DistanceSymbolsCopyBack := by
  intro d s hd dist bits
  obtain ⟨hmin, hmax⟩ := dbase_range hd
  have hextra := s.bitsAt_lt s.engine.cur (dextra d)
  have hpos : 1 ≤ dist := by omega
  have hraises {e : Err} (h : bodyDist d s = .error e) : Raises (.dist d) e s := raises_of_error rfl h
  refine ⟨hpos, by omega, fun hshort => hraises ?_, fun hbits hreach => hraises ?_, fun hbits hreach hroom => hraises ?_,
    fun hbits hreach hroom => ?_⟩
  · rw [bodyDist, State.readBits_short hshort]
  · exact (bodyDist_fits hbits).trans (if_pos hreach)
  · exact (bodyDist_fits hbits).trans ((if_neg (Nat.not_lt.2 hreach)).trans (if_pos hroom))
  · have hbody := (bodyDist_fits hbits).trans ((if_neg (Nat.not_lt.2 hreach)).trans (if_neg (Nat.not_lt.2 hroom)))
    refine ⟨_, congrArg (settle s) hbody, fun a => read_copyBack hpos hreach, rfl, rfl, rfl, ?_⟩
    exact (keeps_setOut s _).setEngine _

end Sys2Proof.Machine
end

section
/-! PROOFS. The headers of the Huffman blocks: the fixed one, the counts and code-length-code lengths of a dynamic one, and
the code-length symbols that follow them. -/

namespace Sys2Proof.Machine

open Sys2Proof.Claims

/-! ### Builds (R145) -/

theorem buildInto_error {id : TableId} {before : List TableId} {lens : List Nat} {s : State} {e : Err}
    (h : buildTable lens = .error e) : buildInto id before lens s = .error { e with tables := id :: before } := by
  rw [buildInto, h]

/-- R145: `s` after a build into a table RAM. -/
def State.built (s : State) (id : TableId) (n : Nat) (T : List (BitVec 10)) (w : Build) : State :=
  (s.setTables (s.tables.set id ((s.tables.get id).load n T))).setEngine { s.engine with build := w }

theorem buildInto_built {id : TableId} {before : List TableId} {lens : List Nat} {s : State} {T : List (BitVec 10)}
    {w : Build} (h : buildTable lens = .ok (T, w)) :
    buildInto id before lens s = .ok (s.built id lens.length T w) := by
  rw [buildInto, h]
  rfl

/-! ### The code-length-code lengths (R107, R166) -/

/-- R166: `clLen` with the lengths of the symbols of `order` read, three bits each, from `cur` on. -/
def State.clLensFrom (s : State) (order clLen : List Nat) (cur : Nat) : List Nat :=
  (List.range clLen.length).map (fun sym =>
    if sym ∈ order then s.bitsAt (cur + 3 * order.idxOf sym) 3 else clLen.getD sym 0)

theorem State.clLensFrom_nil (s : State) (clLen : List Nat) (cur : Nat) : s.clLensFrom [] clLen cur = clLen := by
  refine List.ext_getElem (by simp [State.clLensFrom]) fun sym _ hsym => ?_
  simp [State.clLensFrom, hsym]

/-- The first symbol of the order has the first three bits; the others start three bits on. -/
theorem State.clLensFrom_cons (s : State) {j : Nat} {order clLen : List Nat} (cur : Nat) (hj : j < clLen.length)
    (hnew : j ∉ order) :
    s.clLensFrom order (clLen.set j (s.bitsAt cur 3)) (cur + 3) = s.clLensFrom (j :: order) clLen cur := by
  rw [State.clLensFrom, State.clLensFrom, List.length_set]
  refine List.map_congr_left fun sym _ => ?_
  by_cases hsym : sym = j
  · subst hsym
    rw [if_neg hnew, if_pos List.mem_cons_self, List.idxOf_cons_self, getD_set_self hj]
    rfl
  · rw [getD_set_ne (Ne.symm hsym), List.idxOf_cons_ne order (Ne.symm hsym), Nat.succ_eq_add_one, Nat.mul_add, Nat.mul_one]
    simp only [List.mem_cons, hsym, false_or]
    rw [Nat.add_assoc, Nat.add_comm 3]

/-- R166: the lengths are all read, or one has a bit missing. -/
theorem State.readClLens_eq (s : State) {order clLen : List Nat} (cur : Nat) (hnodup : order.Nodup)
    (hlt : ∀ j ∈ order, j < clLen.length) : s.readClLens order clLen cur =
      if order.length = 0 ∨ cur + 3 * order.length ≤ 8 * s.engine.inlen then
        .ok (s.clLensFrom order clLen cur, cur + 3 * order.length)
      else .error (malformed 0x0201) := by
  induction order generalizing clLen cur with
  | nil => rw [if_pos (.inl rfl), s.clLensFrom_nil]; rfl
  | cons j order ih =>
    obtain ⟨hnew, hrest⟩ := List.nodup_cons.1 hnodup
    rw [State.readClLens, List.length_cons]
    by_cases hfits : cur + 3 ≤ 8 * s.engine.inlen
    · rw [State.readBits_fits (.inr hfits)]
      dsimp only
      rw [ih (cur + 3) hrest (by simpa using fun k hk => hlt k (List.mem_cons_of_mem j hk)),
        s.clLensFrom_cons cur (hlt j List.mem_cons_self) hnew, Nat.mul_add, Nat.add_assoc, Nat.add_comm 3]
      exact if_congr (by omega) rfl rfl
    · rw [State.readBits_short (by omega), if_neg (by omega)]

/-- R107: the first `n` symbols of CLORDER are those with a place below `n`. -/
theorem clLensFrom_clOrder (s : State) (k n : Nat) :
    s.clLensFrom (clOrder.take n) (List.replicate 19 0) k = codeLengthCode s k n := by
  rw [State.clLensFrom, codeLengthCode, List.length_replicate]
  refine List.map_congr_left fun sym hsym => ?_
  have hall : ∀ sym < 19, sym ∈ clOrder := by decide
  have hmem := List.mem_take_iff_idxOf_lt (n := n) (hall sym (List.mem_range.1 hsym))
  by_cases hn : clOrder.idxOf sym < n
  · rw [if_pos (hmem.2 hn), if_pos hn, (clOrder.take_prefix n).idxOf_eq_of_mem (hmem.2 hn)]
  · rw [if_neg fun h => hn (hmem.1 h), if_neg hn]
    exact List.getD_replicate _ (List.mem_range.1 hsym)

/-! ### The two headers (R165, R166) -/

/-- R166: `s` after a dynamic header's counts and code-length-code lengths are read. -/
def State.headerRead (s : State) : State :=
  let c := s.engine.cur
  let n := s.bitsAt (c + 10) 4 + 4
  s.setEngine { s.engine with cur := c + 14 + 3 * n, hlit := s.bitsAt c 5 + 257, hdist := s.bitsAt (c + 5) 5 + 1, hclen := n,
                              clLen := codeLengthCode s (c + 14) n, lens := [], pair := .dynamic }

/-- R166: a dynamic header has the TCL build left, or has a bit missing. -/
theorem dynamicHeader_eq (s : State) : dynamicHeader s =
    if s.headerRead.engine.cur ≤ 8 * s.engine.inlen then
      (buildInto .tcl [] s.headerRead.engine.clLen s.headerRead).map (State.goto · .codeLens)
    else .error (malformed 0x0201) := by
  have hn := s.bitsAt_lt (s.engine.cur + 5 + 5) 4
  have hlen : (clOrder.take (s.bitsAt (s.engine.cur + 5 + 5) 4 + 4)).length = s.bitsAt (s.engine.cur + 5 + 5) 4 + 4 := by
    rw [List.length_take, show clOrder.length = 19 from rfl]
    omega
  have hend : s.headerRead.engine.cur = s.engine.cur + 5 + 5 + 4 + 3 * (s.bitsAt (s.engine.cur + 5 + 5) 4 + 4) := rfl
  rw [dynamicHeader]
  by_cases hlit : s.engine.cur + 5 ≤ 8 * s.engine.inlen
  swap
  · rw [State.readBits_short (by omega), if_neg (by omega)]
  rw [State.readBits_fits (.inr hlit)]
  dsimp only
  by_cases hdist : s.engine.cur + 5 + 5 ≤ 8 * s.engine.inlen
  swap
  · rw [State.readBits_short (by omega), if_neg (by omega)]
  rw [State.readBits_fits (.inr hdist)]
  dsimp only
  by_cases hclen : s.engine.cur + 5 + 5 + 4 ≤ 8 * s.engine.inlen
  swap
  · rw [State.readBits_short (by omega), if_neg (by omega)]
  rw [State.readBits_fits (.inr hclen)]
  dsimp only
  rw [s.readClLens_eq _ (List.Nodup.sublist (List.take_sublist _ _) (by decide)) (fun j hj => by
    have hall : ∀ j ∈ clOrder, j < 19 := by decide
    exact (hall j (List.mem_of_mem_take hj)).trans_eq List.length_replicate.symm), clLensFrom_clOrder, hlen]
  by_cases hlens : s.headerRead.engine.cur ≤ 8 * s.engine.inlen
  · rw [if_pos (.inr (by omega)), if_pos hlens]
    dsimp only [State.headerRead, State.setEngine_engine]
    cases buildInto .tcl [] _ _ <;> rfl
  · rw [if_neg (by omega), if_neg (by omega)]

/-- Settles O44: the fixed header selects its tables; the dynamic one is read in the state with the header latched. -/
theorem huffmanBlockHeadersPrepareTheirTables : Obligations.HuffmanBlockHeadersPrepareTheirTables := by
  intro b s c n lens
  have hexec : exec (.dynamic b) s = settle (s.latchHeader b 2) (dynamicHeader (s.latchHeader b 2)) := rfl
  have hbuilt (hfits : c + 14 + 3 * n ≤ 8 * s.engine.inlen) : dynamicHeader (s.latchHeader b 2) =
      (buildInto .tcl [] lens (s.latchHeader b 2).headerRead).map (State.goto · .codeLens) :=
    (dynamicHeader_eq (s.latchHeader b 2)).trans (if_pos hfits)
  refine ⟨rfl, fun hshort => ?_, fun hfits e herr => ?_, fun hfits T w hok => ?_⟩
  · have hend : 8 * s.engine.inlen < c + 14 + 3 * n := by omega
    exact raises_of_latched_error hexec ((dynamicHeader_eq _).trans (if_neg (Nat.not_le.2 hend)))
  · exact raises_of_latched_error hexec (by rw [hbuilt hfits, buildInto_error herr]; rfl)
  · have hlen : lens.length = 19 := (List.length_map ..).trans List.length_range
    rw [hexec, hbuilt hfits, buildInto_built hok, hlen]
    rfl

/-! ### The code-length symbols (R167 to R170) -/

/-- R167: `s` after a code-length symbol has appended its lengths. -/
def State.appended (s : State) (add : List Nat) (cur : Nat) : State :=
  s.setEngine { s.engine with lens := s.engine.lens ++ add, cur := cur }

/-- R169: a repeat that would pass the end raises before it writes any length. -/
theorem repeatCount_fits {base width v : Nat} {s : State} (h : s.engine.cur + width ≤ 8 * s.engine.inlen) :
    repeatCount base width v s =
      if s.engine.hlit + s.engine.hdist <
          (s.engine.lens ++ List.replicate (base + s.bitsAt s.engine.cur width) v).length then .error (malformed 0x0402)
      else nextCodeLength (s.appended (List.replicate (base + s.bitsAt s.engine.cur width) v) (s.engine.cur + width)) := by
  rw [repeatCount, State.readBits_fits (.inr h), List.length_append, List.length_replicate]
  rfl

theorem repeatCount_short {base width v : Nat} {s : State} (hwidth : width ≠ 0)
    (h : 8 * s.engine.inlen < s.engine.cur + width) : repeatCount base width v s = .error (malformed 0x0201) := by
  rw [repeatCount, State.readBits_short (by omega)]

/-- R167: symbol 16 repeats the last length. -/
theorem bodyClRepeatPrev_of_ne_nil {s : State} (h : s.engine.lens ≠ []) :
    bodyClRepeatPrev s = repeatCount 3 2 (s.engine.lens.getLastD 0) s := by
  rw [bodyClRepeatPrev, if_neg (mt List.length_eq_zero_iff.1 h), List.getLastD_eq_getLast?, List.getLast?_eq_getElem?,
    List.getD_eq_getElem?_getD]

/-- R167: the loop's two ways on: the next symbol, or the builds. -/
theorem nextCodeLength_appended {s : State} {add : List Nat} {cur : Nat} :
    nextCodeLength (s.appended add cur) =
      if (s.engine.lens ++ add).length < s.engine.hlit + s.engine.hdist then .ok ((s.appended add cur).goto .codeLens)
      else buildBlockTables (s.appended add cur) :=
  rfl

/-- What a code-length symbol that appends lengths does: it may not pass the end, unless it is a single length. -/
theorem exec_codeLengths {s : State} {i : Instr} {add : List Nat} {cur : Nat} (h : codeLengthsOf s i = some (add, cur)) :
    ((∃ l, i = .clLen l) ∧ exec i s = settle s (nextCodeLength (s.appended add cur))) ∨
    ((∀ l, i ≠ .clLen l) ∧ exec i s = settle s
      (if s.engine.hlit + s.engine.hdist < (s.engine.lens ++ add).length then .error (malformed 0x0402)
       else nextCodeLength (s.appended add cur))) := by
  unfold codeLengthsOf at h
  split at h
  · cases h
    exact .inl ⟨⟨_, rfl⟩, rfl⟩
  · split at h <;> cases h
    next hguard =>
    obtain ⟨hlens, hin⟩ := not_or.1 hguard
    refine .inr ⟨nofun, ?_⟩
    rw [← repeatCount_fits (Nat.not_lt.1 hin), ← bodyClRepeatPrev_of_ne_nil hlens]
    rfl
  · split at h <;> cases h
    next hin =>
    exact .inr ⟨nofun, congrArg (settle s) (repeatCount_fits (Nat.not_lt.1 hin))⟩
  · split at h <;> cases h
    next hin =>
    exact .inr ⟨nofun, congrArg (settle s) (repeatCount_fits (Nat.not_lt.1 hin))⟩
  · cases h

/-- R170: a code-length symbol with no more lengths to come than it appends goes on as the loop does. -/
theorem exec_codeLengths_le {s : State} {i : Instr} {add : List Nat} {cur : Nat}
    (h : codeLengthsOf s i = some (add, cur))
    (hle : (s.engine.lens ++ add).length ≤ s.engine.hlit + s.engine.hdist) :
    exec i s = settle s (nextCodeLength (s.appended add cur)) := by
  obtain ⟨-, hexec⟩ | ⟨-, hexec⟩ := exec_codeLengths h
  · exact hexec
  · rw [hexec, if_neg (Nat.not_lt.2 hle)]

/-! The builds of R170: an error of TLL's is raised before TD is built. -/

theorem buildBlockTables_ll_error {s : State} {e : Err} (h : buildTable s.engine.llLens = .error e) :
    buildBlockTables s = .error { e with tables := [.tll] } := by
  rw [buildBlockTables, buildInto_error h]

theorem buildBlockTables_dist_error {s : State} {T : List (BitVec 10)} {w : Build} {e : Err}
    (hll : buildTable s.engine.llLens = .ok (T, w)) (hdist : buildTable s.engine.distLens = .error e) :
    buildBlockTables s = .error { e with tables := [.td, .tll] } := by
  rw [buildBlockTables, buildInto_built hll]
  dsimp only
  rw [buildInto_error (lens := (s.built .tll _ T w).engine.distLens) hdist]

theorem buildBlockTables_ok {s : State} {T T' : List (BitVec 10)} {w w' : Build}
    (hll : buildTable s.engine.llLens = .ok (T, w)) (hdist : buildTable s.engine.distLens = .ok (T', w')) :
    buildBlockTables s = .ok (((s.built .tll 288 T w).built .td 32 T' w').goto .syms) := by
  have hlenLL : s.engine.llLens.length = 288 := (List.length_map ..).trans List.length_range
  have hlenD : s.engine.distLens.length = 32 := (List.length_map ..).trans List.length_range
  rw [buildBlockTables, buildInto_built hll, hlenLL]
  dsimp only
  rw [buildInto_built (lens := (s.built .tll 288 T w).engine.distLens) hdist]
  exact congrArg (fun n => Except.ok (((s.built .tll 288 T w).built .td n T' w').goto .syms)) hlenD

/-- Settles O45, symbol by symbol until the lengths are appended, and then by how many there are. -/
theorem codeLengthSymbolsFillTheLengths : Obligations.CodeLengthSymbolsFillTheLengths := by
  intro s i total
  refine ⟨fun hi hlens => ?_, fun k hk hprev hshort => ?_, fun add cur hadd => ?_⟩
  · subst hi
    exact raises_of_error (body := bodyClRepeatPrev s) rfl (if_pos (List.length_eq_zero_iff.2 hlens))
  · simp only [List.mem_cons, Prod.mk.injEq, List.not_mem_nil, or_false] at hk
    obtain ⟨rfl, rfl⟩ | ⟨rfl, rfl⟩ | ⟨rfl, rfl⟩ := hk
    · exact raises_of_error (body := bodyClRepeatPrev s) rfl
        ((bodyClRepeatPrev_of_ne_nil (hprev rfl)).trans (repeatCount_short (by decide) hshort))
    · exact raises_of_error (body := repeatCount 3 3 0 s) rfl (repeatCount_short (by decide) hshort)
    · exact raises_of_error (body := repeatCount 11 7 0 s) rfl (repeatCount_short (by decide) hshort)
  · intro L ll dl
    have hbuild (heq : L.length = total) : exec i s = settle s (buildBlockTables (s.appended add cur)) := by
      rw [exec_codeLengths_le hadd heq.le, nextCodeLength_appended, if_neg heq.not_lt]
    refine ⟨fun hrepeat hover => ?_, fun hlt => ?_, fun heq e herr => ?_, fun heq e T w hll herr => ?_,
      fun heq T w T' w' hll hdl => ?_⟩
    · obtain ⟨⟨l, hl⟩, -⟩ | ⟨-, hexec⟩ := exec_codeLengths hadd
      · exact absurd hl (hrepeat l)
      · exact raises_of_error hexec (if_pos hover)
    · rw [exec_codeLengths_le hadd hlt.le, nextCodeLength_appended, if_pos hlt]
      rfl
    · exact raises_of_error (hbuild heq) (buildBlockTables_ll_error herr)
    · exact raises_of_error (hbuild heq) (buildBlockTables_dist_error hll herr)
    · rw [hbuild heq, buildBlockTables_ok (s := s.appended add cur) hll hdl]
      rfl

end Sys2Proof.Machine
end

section
/-! PROOFS. What is read at the points of a command, and the codes that stand for nothing there. -/

namespace Sys2Proof.Machine

open Sys2Proof.Claims

/-! ### What is read (R160, R167, R171, R203, R222) -/

theorem State.llTable_eq (s : State) : s.llTable = if s.engine.pair = .fixed then fll else s.tables.tll.entries := by
  unfold State.llTable
  split <;> simp [*]

theorem State.distTable_eq (s : State) : s.distTable = if s.engine.pair = .fixed then fd else s.tables.td.entries := by
  unfold State.distTable
  split <;> simp [*]

/-- R149: a symbol is what the walk of its table gives, and so is an error. -/
theorem fetchSymbol_walk (fmt : Format) (T : List (BitVec 10)) (n : Nat) (s : State) :
    (∀ sym cur, walkTable s.streamBit T n (8 * s.engine.inlen - s.engine.cur) s.engine.cur 0 = .ok (sym, cur) →
      fetchSymbol fmt T n s = .ok (fmt, sym, { s with engine := { s.engine with cur := cur } })) ∧
    (∀ e, walkTable s.streamBit T n (8 * s.engine.inlen - s.engine.cur) s.engine.cur 0 = .error e →
      fetchSymbol fmt T n s = .error e) := by
  refine ⟨fun sym cur h => ?_, fun e h => ?_⟩
  · rw [fetchSymbol, State.decodeSymbol, h]
    rfl
  · rw [fetchSymbol, State.decodeSymbol, h]

/-- Settles O13: a walk of the phase's table at the first three points, the code named at the others. -/
theorem eachPhaseReadsItsOwnCode : Obligations.EachPhaseReadsItsOwnCode := by
  intro s
  rw [← s.llTable_eq, ← s.distTable_eq]
  refine ⟨fun p fmt n T hpoint hphase => ?_, fun p fmt w hpoint hphase => ?_⟩
  · simp only [List.mem_cons, Prod.mk.injEq, List.not_mem_nil, or_false] at hpoint
    unfold fetch
    rw [hphase]
    obtain ⟨rfl, rfl, rfl, rfl⟩ | ⟨rfl, rfl, rfl, rfl⟩ | ⟨rfl, rfl, rfl, rfl⟩ := hpoint <;> exact fetchSymbol_walk _ _ _ s
  · simp only [List.mem_cons, Prod.mk.injEq, List.not_mem_nil, or_false] at hpoint
    unfold fetch
    rw [hphase]
    obtain ⟨rfl, rfl, rfl⟩ | ⟨rfl, rfl, rfl⟩ | ⟨rfl, rfl, rfl⟩ | ⟨rfl, rfl, rfl⟩ | ⟨rfl, rfl, rfl⟩ | ⟨rfl, rfl, rfl⟩ |
      ⟨rfl, rfl, rfl⟩ | ⟨rfl, rfl, rfl⟩ | ⟨rfl, rfl, rfl⟩ | ⟨rfl, rfl, rfl⟩ := hpoint <;> rfl

/-! ### Illegal codes (R124) -/

/-- An instruction that does nothing but raise. -/
theorem raises_of_settle {i : Instr} {e : Err} {s : State} (hexec : exec i s = settle s (.error e)) : Raises i e s :=
  raises_of_error hexec rfl

/-- Settles O39: each of these codes raises its error and does nothing else; BTYPE 3 does so with its header latched. -/
theorem illegalCodesRaiseTheirErrors : Obligations.IllegalCodesRaiseTheirErrors := fun _ =>
  ⟨fun b => raises_of_latched_error (b := b) (ty := 3) rfl rfl, fun _ => raises_of_settle rfl, fun _ => raises_of_settle rfl,
    fun _ => raises_of_settle rfl, fun _ => raises_of_settle rfl, fun _ => raises_of_settle rfl, raises_of_settle rfl,
    raises_of_settle rfl⟩

end Sys2Proof.Machine
end

section
/-! PROOFS. The zlib header: what its two bytes decode to, and its checks in their order. -/

namespace Sys2Proof.Machine

open Sys2Proof.Claims

/-! ### The header's bytes (R191, R192) -/

theorem decode_zlibCmf {w : Nat} (hw : w < 256) :
    decode .zlibCmf w = if w % 16 = 8 ∧ w / 16 ≤ 7 then .ok (.zlibCmfOk (w / 16)) else .error .cmfMethod :=
  if_neg (Nat.not_le.2 hw)

theorem decode_zlibFlg {w : Nat} (hw : w < 256) :
    decode .zlibFlg w =
      if w / 32 % 2 = 1 then .error .fdictSet else .ok (.zlibFlgFdictClear (w / 64) (w % 32)) :=
  if_neg (Nat.not_le.2 hw)

/-! ### The header as a whole (R190, R196) -/

theorem zlibHeaderCheck_short {s : State} (hlen : s.regs.inLen.toNat < 2) :
    zlibHeaderCheck s = .error (malformed 0x0101) :=
  if_pos hlen

/-- R190: a header that is there passes exactly when CMF × 256 + FLG is a multiple of 31. -/
theorem zlibHeaderCheck_present {s : State} (hlen : 2 ≤ s.regs.inLen.toNat) :
    zlibHeaderCheck s =
      if ((s.rd .inp s.regs.inBase.toNat).toNat * 256 + (s.rd .inp (s.regs.inBase.toNat + 1)).toNat) % 31 ≠ 0
      then .error (malformed 0x0102) else .ok () :=
  if_neg (Nat.not_lt.2 hlen)

section
variable {s : State} (hphase : s.engine.phase = .zlibCmf)
include hphase

theorem fetch_zlibCmf_error {e : Err} (hcheck : zlibHeaderCheck s = .error e) : fetch s = .error e := by
  rw [fetch, hphase]
  dsimp only
  rw [fetchCmf, hcheck]

theorem fetch_zlibCmf_ok (hcheck : zlibHeaderCheck s = .ok ()) :
    fetch s = .ok (.zlibCmf, (s.rd .inp s.regs.inBase.toNat).toNat, s) := by
  rw [fetch, hphase]
  dsimp only
  rw [fetchCmf, hcheck]

end

theorem fetch_zlibFlg {s : State} (hphase : s.engine.phase = .zlibFlg) :
    fetch s = .ok (.zlibFlg, (s.rd .inp (s.regs.inBase.toNat + 1)).toNat, s) := by
  rw [fetch, hphase]

/-! ### Steps that raise -/

theorem engineStep_of_fetch_error {s : State} {e : Err} (hbounds : s.inBounds = true) (hfetch : fetch s = .error e) :
    ∃ t, engineStep s = .next t ∧ Raised e s t := by
  refine ⟨raise e s, ?_, raise_spec e s⟩
  rw [engineStep, if_pos hbounds, hfetch]

theorem engineStep_of_reject {s t : State} {fmt : Format} {w : Nat} {r : Reject} {e : Err} (hbounds : s.inBounds = true)
    (hfetch : fetch s = .ok (fmt, w, t)) (hdec : decode fmt w = .error r) (hreject : rejectError r = some e) :
    ∃ u, engineStep s = .next u ∧ Raised e t u := by
  refine ⟨raise e t, ?_, raise_spec e t⟩
  rw [engineStep, if_pos hbounds, hfetch]
  dsimp only
  rw [hdec]
  dsimp only
  rw [hreject]

/-- Settles O41: at CMF the checks on the whole header come before CMF's own; at FLG the byte's bit 5 decides. -/
theorem zlibHeadersAreChecked : Obligations.ZlibHeadersAreChecked := by
  refine ⟨fun s hbounds => ⟨fun hphase => ?_, fun hphase => ?_⟩, fun _ _ _ _ => ⟨rfl, rfl⟩⟩
  · have hcmf := decode_zlibCmf (s.rd .inp s.regs.inBase.toNat).isLt
    refine ⟨fun hlen => ?_, fun hlen hfcheck => ?_, fun hlen hfcheck hmethod => ?_, fun hlen hfcheck hcm hcinfo => ?_⟩
    · exact engineStep_of_fetch_error hbounds (fetch_zlibCmf_error hphase (zlibHeaderCheck_short hlen))
    · have hcheck := (zlibHeaderCheck_present hlen).trans (if_pos hfcheck)
      exact engineStep_of_fetch_error hbounds (fetch_zlibCmf_error hphase hcheck)
    · have hcheck := (zlibHeaderCheck_present hlen).trans (if_neg (not_not.2 hfcheck))
      rw [if_neg (by omega)] at hcmf
      exact engineStep_of_reject hbounds (fetch_zlibCmf_ok hphase hcheck) hcmf rfl
    · have hcheck := (zlibHeaderCheck_present hlen).trans (if_neg (not_not.2 hfcheck))
      rw [if_pos ⟨hcm, hcinfo⟩] at hcmf
      exact engineStep_of_fetch hbounds (fetch_zlibCmf_ok hphase hcheck) hcmf
  · have hflg := decode_zlibFlg (s.rd .inp (s.regs.inBase.toNat + 1)).isLt
    refine ⟨fun hset => ?_, fun hclear => ?_⟩
    · exact engineStep_of_reject hbounds (fetch_zlibFlg hphase) (hflg.trans (if_pos hset)) rfl
    · have hdec := hflg.trans (if_neg (by omega))
      exact engineStep_of_fetch hbounds (fetch_zlibFlg hphase) hdec

end Sys2Proof.Machine
end

section
/-! PROOFS. The format check (R200, R201): what a pair decodes to, and what the command that needed it does next. -/

namespace Sys2Proof.Machine

open Sys2Proof.Claims

/-! ### The pair (R200, R201) -/

theorem fetch_format {s : State} (hphase : s.engine.phase = .format) :
    fetch s = .ok (.color, s.regs.colorType.toNat + 256 * s.regs.bitDepth.toNat, s) := by
  rw [fetch, hphase]

theorem decode_color_unmatched {ct d : Nat} (hct : ct < 256) (hd : d < 256) (h : formatBpp ct d = none) :
    decode .color (ct + 256 * d) = .error .unmatchedFormat := by
  change decodeColor (ct + 256 * d) = _
  rw [decodeColor, if_neg (by omega), show (ct + 256 * d) % 256 = ct by omega,
    show (ct + 256 * d) / 256 = d by omega]
  split
  case h_16 => rfl
  all_goals cases h

/-- R200, row by row. -/
theorem formats_spec {i : Instr} {ct d bpp : Nat} (hmem : (i, ct, d, bpp) ∈ formats) :
    ct < 256 ∧ decode .color (ct + 256 * d) = .ok i ∧ formatBpp ct d = some bpp := by
  have hall : ∀ f ∈ formats, f.2.1 < 256 ∧ decode .color (f.2.1 + 256 * f.2.2.1) = .ok f.1 ∧
      formatBpp f.2.1 f.2.2.1 = some f.2.2.2 := by decide
  exact hall _ hmem

theorem exec_format {i : Instr} {ct d bpp : Nat} (hmem : (i, ct, d, bpp) ∈ formats) (s : State) :
    exec i s = settle s (acceptFormat ct bpp s) := by
  obtain ⟨hct, hdec, hbpp⟩ := formats_spec hmem
  obtain ⟨bpp', hbpp', hexec⟩ := exec_of_decode_color hct hdec
  obtain rfl : bpp = bpp' := Option.some.inj (hbpp.symm.trans hbpp')
  exact hexec s

/-! ### The command that needed it (R253, R254, R222) -/

theorem acceptFormat_defilter {ct bpp : Nat} {s : State} (hop : s.runningOp = 3) :
    acceptFormat ct bpp s = defilterChecks bpp s := by
  simp only [acceptFormat, hop]

theorem acceptFormat_decodeFrame {ct bpp : Nat} {s : State} (hop : s.runningOp = 4) :
    acceptFormat ct bpp s = decodeFrameChecks bpp s := by
  simp only [acceptFormat, hop]

theorem acceptFormat_composite {ct bpp : Nat} {s : State} (hop : s.runningOp = 5) :
    acceptFormat ct bpp s = compositeFormatCheck ct bpp s := by
  simp only [acceptFormat, hop]

/-- R253, R254: the two checks that DEFILTER and DECODE_FRAME share, the frame's dimensions and then its size against
OUT, in their order. -/
theorem outcome_of_frameChecks {i : Instr} {s next : State} {e : Err} {w h size cap : Nat}
    (hexec : exec i s = settle s (if w = 0 ∨ h = 0 then .error (param 0x0A03)
      else if cap < size then .error e else .ok next)) :
    (w = 0 ∨ h = 0 → Raises i (param 0x0A03) s) ∧
    (1 ≤ w → 1 ≤ h → cap < size → Raises i e s) ∧
    (1 ≤ w → 1 ≤ h → size ≤ cap → exec i s = .next next) := by
  refine ⟨fun hempty => ?_, fun hw hh hlt => ?_, fun hw hh hle => ?_⟩
  · exact raises_of_error hexec (if_pos hempty)
  · exact raises_of_error hexec (by rw [if_neg (by omega), if_pos hlt])
  · rw [hexec, if_neg (by omega), if_neg (by omega), settle_ok]

theorem outcome_of_compositeFormatCheck {i : Instr} {s : State} {ct bpp : Nat}
    (hexec : exec i s = settle s (compositeFormatCheck ct bpp s)) :
    (ct = 3 → exec i s = .next { s with engine := { s.engine with phase := .blendMode, bpp := bpp } }) ∧
    (ct ≠ 3 → Raises i (param 0x0901) s) := by
  refine ⟨fun hct => ?_, fun hct => raises_of_error hexec (if_neg hct)⟩
  rw [hexec, compositeFormatCheck, if_pos hct, settle_ok]
  rfl

/-- Settles O40: a pair that is not listed decodes to no instruction; a listed one decodes to its own, which makes the
running command's checks. -/
theorem formatsAreMatchedOrRejected : Obligations.FormatsAreMatchedOrRejected := by
  refine ⟨fun s hbounds hphase hnone => ?_, fun s i ct d bpp hmem => ?_⟩
  · have hdec := decode_color_unmatched s.regs.colorType.isLt s.regs.bitDepth.isLt hnone
    exact engineStep_of_reject hbounds (fetch_format hphase) hdec rfl
  · obtain ⟨-, hdec, hbpp⟩ := formats_spec hmem
    have hexec := exec_format hmem s
    refine ⟨hdec, hbpp, fun hop => ?_, fun hop => ?_, fun hop => ?_⟩
    · rw [acceptFormat_defilter hop] at hexec
      exact outcome_of_frameChecks hexec
    · rw [acceptFormat_decodeFrame hop] at hexec
      exact outcome_of_frameChecks hexec
    · rw [acceptFormat_composite hop] at hexec
      exact outcome_of_compositeFormatCheck hexec

end Sys2Proof.Machine
end

section
/-! PROOFS. One row of the Filter Reconstructor (R203 to R209), and the compaction after the last (R212). -/

namespace Sys2Proof.Machine

open Sys2Proof.Claims

/-- Settles O51, by which of the two comparisons hold. -/
theorem paethPicksTheNearest : Obligations.PaethPicksTheNearest := by
  intro a b c _ _ _ d
  have hpaeth : paeth a b c = if d a ≤ d b ∧ d a ≤ d c then a else if d b ≤ d c then b else c := rfl
  refine ⟨?_, fun x hx => ?_, fun hb hc => ?_, fun ha hc => ?_, ?_⟩
  · rw [hpaeth]
    split_ifs <;> simp
  · have hmin : d (paeth a b c) ≤ d a ∧ d (paeth a b c) ≤ d b ∧ d (paeth a b c) ≤ d c := by
      rw [hpaeth]
      split_ifs <;> omega
    simp only [List.mem_cons, List.not_mem_nil, or_false] at hx
    obtain rfl | rfl | rfl := hx
    · exact hmin.1
    · exact hmin.2.1
    · exact hmin.2.2
  · rw [hpaeth, if_pos ⟨hb, hc⟩]
  · rw [hpaeth, if_neg (by omega), if_pos hc]
  · unfold paeth
    dsimp only
    split_ifs <;> omega

/-! ### The filter types (R120, R205 to R209) -/

/-- Every filter type reconstructs a row with its own prediction. -/
theorem exec_filter {i : Instr} {ft : Nat} (hmem : (i, ft) ∈ filters) (s : State) :
    exec i s = .next (filterRow (prediction ft) s) := by
  simp only [filters, List.mem_cons, Prod.mk.injEq, List.not_mem_nil, or_false] at hmem
  obtain ⟨rfl, rfl⟩ | ⟨rfl, rfl⟩ | ⟨rfl, rfl⟩ | ⟨rfl, rfl⟩ | ⟨rfl, rfl⟩ := hmem <;> rfl

theorem decode_filter {ft : Nat} (hft : ft ≤ 4) : ∃ i, (i, ft) ∈ filters ∧ decode .filterType ft = .ok i := by
  interval_cases ft
  · exact ⟨.filtNone, by decide, rfl⟩
  · exact ⟨.filtSub, by decide, rfl⟩
  · exact ⟨.filtUp, by decide, rfl⟩
  · exact ⟨.filtAverage, by decide, rfl⟩
  · exact ⟨.filtPaeth, by decide, rfl⟩

/-! ### A row (R203) -/

section
variable {pred : Predictor} {bw : Nat} {scan above : Nat → Nat}

@[simp] theorem length_reconRow (n : Nat) : (reconRow pred bw scan above n).length = n := by
  induction n with
  | zero => rfl
  | succ n ih => simp [reconRow, ih]

/-- A byte, once reconstructed, stays. -/
theorem getD_reconRow_succ {n i : Nat} (hi : i < n) :
    (reconRow pred bw scan above (n + 1)).getD i 0 = (reconRow pred bw scan above n).getD i 0 := by
  rw [reconRow, List.getD_append _ _ _ _ (by simpa using hi)]

theorem getD_reconRow_le {n m i : Nat} (hi : i < n) (hle : n ≤ m) :
    (reconRow pred bw scan above m).getD i 0 = (reconRow pred bw scan above n).getD i 0 := by
  induction m, hle using Nat.le_induction with
  | base => rfl
  | succ m hnm ih => rw [getD_reconRow_succ (by omega), ih]

/-- The byte to the left of byte `i` is the whole row's: it is reconstructed before byte `i` is. -/
theorem getD_reconRow (hbw : 1 ≤ bw) {n i : Nat} (hi : i < n) :
    (reconRow pred bw scan above n).getD i 0 =
      (scan i + pred (if bw ≤ i then (reconRow pred bw scan above n).getD (i - bw) 0 else 0) (above i)
        (if bw ≤ i then above (i - bw) else 0)) % 256 := by
  have hleft : (if bw ≤ i then (reconRow pred bw scan above n).getD (i - bw) 0 else 0) =
      if bw ≤ i then (reconRow pred bw scan above i).getD (i - bw) 0 else 0 := by
    split_ifs
    · exact getD_reconRow_le (by omega) hi.le
    · rfl
  rw [hleft, getD_reconRow_le (Nat.lt_succ_self i) hi, reconRow, List.getD_append_right _ _ _ _ (by simp)]
  simp

theorem getD_reconRow_lt (hbw : 1 ≤ bw) {n i : Nat} (hi : i < n) : (reconRow pred bw scan above n).getD i 0 < 256 := by
  rw [getD_reconRow hbw hi]
  exact Nat.mod_lt _ (by decide)

end

/-- Only row `y`'s place is rewritten. -/
theorem read_rowOut_out {pred : Predictor} {bw lb y a : Nat} {m : Mem} (ha : a < lb * y ∨ lb * y + lb ≤ a) :
    Mem.read (rowOut pred bw lb y m) a = Mem.read m a := by
  unfold rowOut
  exact Mem.read_fill_out ha

theorem read_rowOut_in {pred : Predictor} {bw lb y i : Nat} {m : Mem} (hi : i < lb) :
    Mem.read (rowOut pred bw lb y m) (lb * y + i) =
      BitVec.ofNat 8 ((reconRow pred bw (scanByte m lb y) (aboveByte m lb y) lb).getD i 0) := by
  unfold rowOut
  rw [Mem.read_fill_in (by omega) (by omega), Nat.add_sub_cancel_left]

/-- R202: a matched format's pixels are at least one byte apart. -/
theorem byteWidth_pos {r : Regs} {bpp : Nat} (h : r.bpp? = some bpp) : 1 ≤ byteWidth bpp := by
  have hall : ∀ f ∈ formats.map Prod.snd, 1 ≤ byteWidth f.2.2 := by decide
  exact hall _ (formatBpp_eq_some_iff.mp h)

theorem toNat_read_rowOut {pred : Predictor} {bw lb y i : Nat} {m : Mem} (hbw : 1 ≤ bw) (hi : i < lb) :
    (Mem.read (rowOut pred bw lb y m) (lb * y + i)).toNat =
      (reconRow pred bw (scanByte m lb y) (aboveByte m lb y) lb).getD i 0 := by
  rw [read_rowOut_in hi, BitVec.toNat_ofNat, Nat.mod_eq_of_lt (getD_reconRow_lt hbw hi)]

/-- R203: what is written is the row reconstructed from the bytes as they were. -/
theorem rowReconstructed_rowOut {ft : Nat} {s : State} (hbpp : s.regs.bpp? = some s.engine.bpp) :
    RowReconstructed ft s (rowOut (prediction ft) (byteWidth s.engine.bpp)
      (lineBytes s.regs.frameW.toNat s.engine.bpp) s.engine.row s.mems.out) := by
  have hbw := byteWidth_pos hbpp
  refine ⟨fun i hi => ?_, fun a ha => read_rowOut_out ha⟩
  rw [toNat_read_rowOut hbw (by omega), read_rowOut_in hi, getD_reconRow hbw hi]
  exact BitVec.eq_of_toNat_eq (by simp only [BitVec.toNat_ofNat, Nat.mod_mod]; rfl)

/-! ### Compaction (R84, R212) -/

theorem Mem.bitMsb_eq (m : Mem) (o : Nat) : m.bitMsb o = (Mem.read m (o / 8)).toNat / 2 ^ (7 - o % 8) % 2 :=
  Nat.toNat_testBit ..

theorem Mem.bitMsb_le (m : Mem) (o : Nat) : m.bitMsb o ≤ 1 := by
  rw [m.bitMsb_eq]
  omega

theorem Mem.bitMsb_congr {m m' : Mem} {o : Nat} (h : Mem.read m (o / 8) = Mem.read m' (o / 8)) :
    m.bitMsb o = m'.bitMsb o := by
  rw [m.bitMsb_eq, m'.bitMsb_eq, h]

/-- R84: a number put together from its bits, the first one most significant, has those bits. -/
theorem foldl_bits_div_mod {b : Nat → Nat} (hb : ∀ k, b k ≤ 1) {n k : Nat} (hk : k < n) :
    (List.range n).foldl (fun v k => 2 * v + b k) 0 / 2 ^ (n - 1 - k) % 2 = b k := by
  induction n with
  | zero => omega
  | succ n ih =>
    have hbn := hb n
    rw [List.range_succ, List.foldl_append, List.foldl_cons, List.foldl_nil]
    rcases Nat.lt_succ_iff_lt_or_eq.1 hk with hlt | rfl
    · rw [show n + 1 - 1 - k = n - 1 - k + 1 by omega, pow_succ', ← Nat.div_div_eq_div_mul,
        show ∀ v, (2 * v + b n) / 2 = v by omega, ih hlt]
    · rw [Nat.add_sub_cancel, Nat.sub_self, pow_zero, Nat.div_one]
      omega

theorem compactBit_le (r : Mem) (rb lb h j k : Nat) : compactBit r rb lb h j k ≤ 1 := by
  unfold compactBit
  dsimp only
  split_ifs <;> exact r.bitMsb_le _

/-- R212: the compacted byte has the bits it takes. -/
theorem compactByte_bit (r : Mem) (rb lb h j : Nat) {k : Nat} (hk : k < 8) :
    (BitVec.ofNat 8 (compactByte r rb lb h j)).toNat / 2 ^ (7 - k) % 2 = compactBit r rb lb h j k := by
  have hbit : compactByte r rb lb h j / 2 ^ (7 - k) % 2 = compactBit r rb lb h j k :=
    foldl_bits_div_mod (compactBit_le r rb lb h j) hk
  rw [← hbit, BitVec.toNat_ofNat, ← Nat.toNat_testBit, ← Nat.toNat_testBit, Nat.testBit_mod_two_pow,
    decide_eq_true (show 7 - k < 8 by omega), Bool.true_and]

/-- R212: the bits past the last data bit are kept, in its byte and in those after it. -/
theorem compacted_compact (w h bpp : Nat) (m : Mem) : Compacted w h bpp m (compact w h bpp m) := by
  unfold Compacted compact
  by_cases hpad : bpp < 8 ∧ w * bpp % 8 ≠ 0
  · rw [if_pos hpad, if_pos hpad]
    intro o
    by_cases ho : o / 8 < ceilDiv (w * bpp * h) 8
    · rw [Mem.bitMsb_eq, Mem.read_fill_in (Nat.zero_le _) (by omega), Nat.sub_zero,
        compactByte_bit _ _ _ _ _ (Nat.mod_lt o (by decide)), compactBit, Nat.div_add_mod]
    · have hpast : ¬ o < w * bpp * h := by
        unfold ceilDiv at ho
        omega
      rw [if_neg hpast]
      exact Mem.bitMsb_congr (Mem.read_fill_out (by omega))
  · rw [if_neg hpad, if_neg hpad]
    exact fun _ => rfl

/-! ### The element (R203, R210) -/

theorem keeps_filterRow (pred : Predictor) (s : State) : Keeps [.out] [] s (filterRow pred s) := by
  unfold filterRow
  dsimp only
  split_ifs
  · exact (keeps_setOut s _).setEngine _
  · have hkeeps := keeps_setOut s (compact s.regs.frameW.toNat s.regs.frameH.toNat s.engine.bpp
      (rowOut pred (byteWidth s.engine.bpp) (lineBytes s.regs.frameW.toNat s.engine.bpp) s.engine.row s.mems.out))
    exact ⟨hkeeps.mems, hkeeps.tables, hkeeps.host⟩

/-- Settles O50: the row is written in place; after the last one the compaction follows. -/
theorem filterTypesReconstructTheirRow : Obligations.FilterTypesReconstructTheirRow := by
  intro i ft s hmem hbpp w h bpp
  refine ⟨_, _, exec_filter hmem s, rowReconstructed_rowOut hbpp, keeps_filterRow _ s, fun hnext => ?_, fun hlast => ?_⟩
  · rw [filterRow, if_pos hnext]
    exact ⟨rfl, rfl, rfl, rfl⟩
  · rw [filterRow, if_neg (Nat.not_lt.2 hlast)]
    exact ⟨compacted_compact .., rfl, rfl, rfl⟩

end Sys2Proof.Machine
end

section
/-! PROOFS. The Defilter as the inverse of the forward filters (R213): row by row the bytes of OUT become the original
ones, and the compaction packs their pixel bits. -/

namespace Sys2Proof.Machine

open Sys2Proof.Claims

/-! ### Steps -/

theorem core_run_succ {s t : State} (h : step s = .next t) (k : Nat) : core.run (k + 1) s = core.run k t := by
  have h' : core.step s = .next t := h
  simp only [Host.Core.run, h']

/-- The bytes of a row of the running frame, the source's linebytes (R202). -/
def State.lb (s : State) : Nat := lineBytes s.regs.frameW.toNat s.engine.bpp

theorem fetch_filt {s : State} (hphase : s.engine.phase = .filt) :
    fetch s = .ok (.filterType, (s.rd .out ((s.lb + 1) * s.engine.row)).toNat, s) := by
  rw [fetch, hphase]
  rfl

/-- R253, R254: the Filter Reconstructor runs, with the host quiet, and its first row's filter type is read next. -/
structure State.AtFirstRow (s : State) : Prop where
  busy : s.status.busy = true
  bus : s.bus = []
  bounds : s.inBounds = true
  phase : s.engine.phase = .filt
  row : s.engine.row = 0

namespace State.AtFirstRow

variable {s : State} (h : s.AtFirstRow)
include h

theorem frame : s.frameFits = true := (Bool.and_eq_true_iff.1 (State.bounds_at h.phase h.bounds).2).1

theorem matched : s.regs.bpp? = some s.engine.bpp := (s.frameFits_iff.1 h.frame).1

theorem frameH_pos : 1 ≤ s.regs.frameH.toNat := (s.frameFits_iff.1 h.frame).2.2.1

end State.AtFirstRow

/-! ### The forward filters (R213) -/

/-- R203: the byte above byte `i` of row `y` of the original rows. -/
def originalAbove (orig : Nat → Nat → Nat) (y i : Nat) : Nat := if y = 0 then 0 else orig (y - 1) i

/-- R213: the prediction of byte `i` of row `y` from the original bytes, with filter type `t`. -/
def forwardPrediction (t bw : Nat) (orig : Nat → Nat → Nat) (y i : Nat) : Nat :=
  prediction t (if bw ≤ i then orig y (i - bw) else 0) (originalAbove orig y i)
    (if bw ≤ i then originalAbove orig y (i - bw) else 0)

/-- R213: OUT holds the rows `orig`, each filtered with its type. -/
structure State.HoldsFiltered (s : State) (types : Nat → Nat) (orig : Nat → Nat → Nat) : Prop where
  type : ∀ y < s.regs.frameH.toNat, types y ≤ 4 ∧ (s.rd .out ((s.lb + 1) * y)).toNat = types y
  byte : ∀ y < s.regs.frameH.toNat, ∀ i < s.lb, orig y i ≤ 255 ∧ (s.rd .out ((s.lb + 1) * y + 1 + i)).toNat =
    (orig y i + 256 - forwardPrediction (types y) (byteWidth s.engine.bpp) orig y i % 256) % 256

/-- R213: adding the prediction gives back the byte it was taken from. -/
theorem add_prediction_mod {x p : Nat} (hx : x ≤ 255) : ((x + 256 - p % 256) % 256 + p) % 256 = x := by omega

/-- Byte `i` of row `y` of `m`, the rows `lb` bytes long, is the original one for every row before row `k`. -/
def RowsRestored (orig : Nat → Nat → Nat) (lb k : Nat) (m : Mem) : Prop :=
  ∀ y < k, ∀ i < lb, (Mem.read m (lb * y + i)).toNat = orig y i

/-- R203, R211: `u` is `s` with the rows before row `k` reconstructed: the rows themselves are the original ones, and the
filtered ones after them still stand. -/
structure State.Restored (s : State) (orig : Nat → Nat → Nat) (k : Nat) (u : State) : Prop where
  rows : RowsRestored orig s.lb k u.mems.out
  rest : ∀ a, s.lb * k ≤ a → u.rd .out a = s.rd .out a
  engine : u.engine = { s.engine with row := k }
  regs : u.regs = s.regs
  status : u.status = s.status
  host : u.bus = s.bus ∧ u.params = s.params

/-! ### One row -/

/-- R211: an original byte of the row above is read back where it was written. -/
theorem RowsRestored.above {orig : Nat → Nat → Nat} {lb k i : Nat} {m : Mem} (h : RowsRestored orig lb k m) (hi : i < lb) :
    (if k = 0 then 0 else (Mem.read m (lb * (k - 1) + i)).toNat) = originalAbove orig k i := by
  unfold originalAbove
  split_ifs with hk
  · rfl
  · exact h (k - 1) (by omega) i hi

/-- R203: a row written after the rows before row `k` leaves them as they are. -/
theorem RowsRestored.kept {orig : Nat → Nat → Nat} {lb k : Nat} {m m' : Mem} (h : RowsRestored orig lb k m)
    (hm : ∀ a < lb * k, Mem.read m' a = Mem.read m a) : RowsRestored orig lb k m' := by
  intro y hy i hi
  have hlt : lb * y + i < lb * k := by
    calc lb * y + i < lb * y + lb := Nat.add_lt_add_left hi _
      _ = lb * (y + 1) := (Nat.mul_succ ..).symm
      _ ≤ lb * k := Nat.mul_le_mul_left lb hy
  rw [hm _ hlt]
  exact h y hy i hi

theorem RowsRestored.succ {orig : Nat → Nat → Nat} {lb k : Nat} {m : Mem} (h : RowsRestored orig lb k m)
    (hrow : ∀ i < lb, (Mem.read m (lb * k + i)).toNat = orig k i) : RowsRestored orig lb (k + 1) m := by
  intro y hy i hi
  rcases Nat.lt_succ_iff_lt_or_eq.1 hy with hlt | rfl
  · exact h y hlt i hi
  · exact hrow i hi

namespace State.Restored

variable {s u : State} {types : Nat → Nat} {orig : Nat → Nat → Nat} {k : Nat}

/-- Before the first row nothing is reconstructed. -/
theorem zero (hrow : s.engine.row = 0) : s.Restored orig 0 s where
  rows _ hy := absurd hy (Nat.not_lt_zero _)
  rest _ _ := rfl
  engine := by rw [← hrow]
  regs := rfl
  status := rfl
  host := ⟨rfl, rfl⟩

variable (h : s.Restored orig k u)
include h

theorem row_eq : u.engine.row = k := by rw [h.engine]

theorem bpp_eq : u.engine.bpp = s.engine.bpp := by rw [h.engine]

theorem phase_eq : u.engine.phase = s.engine.phase := by rw [h.engine]

theorem lb_eq : u.lb = s.lb := by rw [State.lb, State.lb, h.regs, h.bpp_eq]

/-- R211: the filtered bytes of row `k` are not overwritten before they are read. -/
theorem filtered_stands {a : Nat} (ha : (s.lb + 1) * k ≤ a) : u.rd .out a = s.rd .out a :=
  h.rest a ((Nat.mul_le_mul_right k (Nat.le_succ _)).trans ha)

/-- R213: with the rows before it restored, row `k` is reconstructed to the original row, by induction on its bytes. -/
theorem row_eq_orig (hfilt : s.HoldsFiltered types orig) (hbw : 1 ≤ byteWidth s.engine.bpp)
    (hk : k < s.regs.frameH.toNat) {m : Mem} (hm : RowReconstructed (types k) u m) {i : Nat} (hi : i < s.lb) :
    (Mem.read m (s.lb * k + i)).toNat = orig k i := by
  obtain ⟨hread, -⟩ := hm
  have hlb : lineBytes u.regs.frameW.toNat u.engine.bpp = s.lb := h.lb_eq
  rw [hlb, h.row_eq, h.bpp_eq] at hread
  induction i using Nat.strong_induction_on with
  | _ i ih =>
    obtain ⟨hle, hscan⟩ := hfilt.byte k hk i hi
    have hleft : (if byteWidth s.engine.bpp ≤ i
        then (Mem.read m (s.lb * k + (i - byteWidth s.engine.bpp))).toNat else 0) =
        if byteWidth s.engine.bpp ≤ i then orig k (i - byteWidth s.engine.bpp) else 0 := by
      split_ifs
      · exact ih _ (by omega) (by omega)
      · rfl
    have habove (j : Nat) (hj : j < s.lb) :
        (if k = 0 then 0 else (u.rd .out (s.lb * (k - 1) + j)).toNat) = originalAbove orig k j := h.rows.above hj
    rw [hread i hi, BitVec.toNat_ofNat, h.filtered_stands (by omega), hscan, hleft]
    dsimp only
    rw [habove i hi, habove (i - byteWidth s.engine.bpp) (by omega)]
    exact add_prediction_mod hle

/-- R203, R211: row `k` joins the rows restored, and nothing after it is rewritten. -/
theorem rowsRestored_succ (hfilt : s.HoldsFiltered types orig) (hbw : 1 ≤ byteWidth s.engine.bpp)
    (hk : k < s.regs.frameH.toNat) {m : Mem} (hm : RowReconstructed (types k) u m) :
    RowsRestored orig s.lb (k + 1) m ∧ ∀ a, s.lb * (k + 1) ≤ a → Mem.read m a = s.rd .out a := by
  have hlb : lineBytes u.regs.frameW.toNat u.engine.bpp = s.lb := h.lb_eq
  have hout : ∀ a, a < s.lb * k ∨ s.lb * k + s.lb ≤ a → Mem.read m a = u.rd .out a := by
    rw [← hlb, ← h.row_eq]
    exact hm.2
  refine ⟨(h.rows.kept fun a ha => hout a (.inl ha)).succ fun i hi => h.row_eq_orig hfilt hbw hk hm hi, fun a ha => ?_⟩
  rw [Nat.mul_succ] at ha
  rw [hout a (.inr ha), h.rest a (by omega)]

/-- R88: the engine still stands where its checks allow. -/
theorem inBounds (hs : s.AtFirstRow) (hk : k < s.regs.frameH.toNat) : u.inBounds = true := by
  obtain ⟨hop, -⟩ := State.bounds_at hs.phase hs.bounds
  have hframe : u.frameFits = true := by
    rw [State.frameFits, h.regs, h.bpp_eq, h.host.2]
    exact hs.frame
  rw [State.inBounds, h.phase_eq, hs.phase, Bool.and_eq_true_iff, State.runningOp, h.regs]
  refine ⟨hop, ?_⟩
  rw [State.phaseFits, hframe, h.regs, h.row_eq, Bool.true_and]
  exact decide_eq_true hk

/-- R203: the step at row `k` is the filter of the row's own type. -/
theorem step_eq_exec (hs : s.AtFirstRow) (hfilt : s.HoldsFiltered types orig) (hk : k < s.regs.frameH.toNat) :
    ∃ i, (i, types k) ∈ filters ∧ step u = exec i u := by
  obtain ⟨hle, htype⟩ := hfilt.type k hk
  obtain ⟨i, hmem, hdec⟩ := decode_filter hle
  have hword : (u.rd .out ((u.lb + 1) * u.engine.row)).toNat = types k := by
    rw [h.lb_eq, h.row_eq, ← htype]
    exact congrArg BitVec.toNat (h.filtered_stands le_rfl)
  have hfetch := fetch_filt (h.phase_eq.trans hs.phase)
  rw [hword] at hfetch
  refine ⟨i, hmem, ?_⟩
  rw [step_busy_nil (by rw [h.status, hs.busy]) (by rw [h.host.1, hs.bus])]
  exact engineStep_of_fetch (h.inBounds hs hk) hfetch hdec

/-- R203: before the last row a step restores one row more. -/
theorem step_next (hs : s.AtFirstRow) (hfilt : s.HoldsFiltered types orig) (hk : k + 1 < s.regs.frameH.toNat) :
    ∃ t, step u = .next t ∧ s.Restored orig (k + 1) t := by
  have hbpp : u.regs.bpp? = some u.engine.bpp := by rw [h.regs, h.bpp_eq, hs.matched]
  obtain ⟨i, hmem, hstep⟩ := h.step_eq_exec hs hfilt (by omega)
  obtain ⟨t, m, hexec, hm, hkeeps, hnext, -⟩ := filterTypesReconstructTheirRow i (types k) u hmem hbpp
  obtain ⟨rfl, hregs, hstatus, hengine⟩ := hnext (by rw [h.row_eq, h.regs]; exact hk)
  obtain ⟨hrows, hrest⟩ := h.rowsRestored_succ hfilt (byteWidth_pos hs.matched) (by omega) hm
  obtain ⟨hbus, -, -, hparams⟩ := hkeeps.host
  exact ⟨t, hstep.trans hexec,
    { rows := hrows
      rest := hrest
      engine := by rw [hengine, h.row_eq, h.engine, ← hs.phase]
      regs := hregs.trans h.regs
      status := hstatus.trans h.status
      host := ⟨hbus.trans h.host.1, hparams.trans h.host.2⟩ }⟩

end State.Restored

/-! ### The whole command (R203, R210, R212) -/

/-- `t` is `s` at the end of its Defilter: all rows were restored and then compacted. -/
structure State.Defiltered (s : State) (orig : Nat → Nat → Nat) (t : State) : Prop where
  out : ∃ m, RowsRestored orig s.lb s.regs.frameH.toNat m ∧
    Compacted s.regs.frameW.toNat s.regs.frameH.toNat s.engine.bpp m t.mems.out
  outSize : t.regs.outSize =
    BitVec.ofNat 32 ((s.regs.frameW.toNat * s.regs.frameH.toNat * s.engine.bpp + 7) / 8)
  status : t.status = { s.status with busy := false, done := true }

theorem State.Restored.step_last {s u : State} {types : Nat → Nat} {orig : Nat → Nat → Nat} {k : Nat}
    (h : s.Restored orig k u) (hs : s.AtFirstRow) (hfilt : s.HoldsFiltered types orig)
    (hk : k + 1 = s.regs.frameH.toNat) : ∃ t, step u = .next t ∧ s.Defiltered orig t := by
  have hbpp : u.regs.bpp? = some u.engine.bpp := by rw [h.regs, h.bpp_eq, hs.matched]
  obtain ⟨i, hmem, hstep⟩ := h.step_eq_exec hs hfilt (by omega)
  obtain ⟨t, m, hexec, hm, -, -, hlast⟩ := filterTypesReconstructTheirRow i (types k) u hmem hbpp
  obtain ⟨hcompact, hregs, hstatus, -⟩ := hlast (by rw [h.row_eq, h.regs, hk])
  obtain ⟨hrows, -⟩ := h.rowsRestored_succ hfilt (byteWidth_pos hs.matched) (by omega) hm
  rw [h.regs, h.bpp_eq] at hcompact hregs
  rw [hk] at hrows
  exact ⟨t, hstep.trans hexec,
    { out := ⟨m, hrows, hcompact⟩
      outSize := by rw [hregs]
      status := by rw [hstatus, h.status] }⟩

/-- From row `k` the rest of the rows, one step each, end the command: by induction on their number. -/
theorem State.Restored.run {s : State} {types : Nat → Nat} {orig : Nat → Nat → Nat} (hs : s.AtFirstRow)
    (hfilt : s.HoldsFiltered types orig) {n k : Nat} {u : State} (h : s.Restored orig k u)
    (hn : k + (n + 1) = s.regs.frameH.toNat) : ∃ t, core.run (n + 1) u = .next t ∧ s.Defiltered orig t := by
  induction n generalizing k u with
  | zero =>
    obtain ⟨t, hstep, ht⟩ := h.step_last hs hfilt hn
    exact ⟨t, core_run_succ hstep 0, ht⟩
  | succ n ih =>
    obtain ⟨u', hstep, hu'⟩ := h.step_next hs hfilt (by omega)
    obtain ⟨t, hrun, ht⟩ := ih hu' (by omega)
    exact ⟨t, (core_run_succ hstep (n + 1)).trans hrun, ht⟩

/-! ### The pixel bits (R84, R212) -/

/-- R202: without a compaction the rows of a matched format have no padding. -/
theorem dvd_rowBits {r : Regs} {w bpp : Nat} (hbpp : r.bpp? = some bpp) (hpad : ¬ (bpp < 8 ∧ w * bpp % 8 ≠ 0)) :
    8 ∣ w * bpp := by
  have hall : ∀ f ∈ formats.map Prod.snd, f.2.2 < 8 ∨ 8 ∣ f.2.2 := by decide
  rcases hall _ (formatBpp_eq_some_iff.mp hbpp) with hlt | hdvd
  · exact Nat.dvd_of_mod_eq_zero (by tauto)
  · exact hdvd.mul_left w

/-- R212: bit `o` of the packed frame is bit `o mod rb` of row `o div rb`, compacted or not. -/
theorem bitMsb_of_compacted {r : Regs} {w h bpp : Nat} {m m' : Mem} (hc : Compacted w h bpp m m')
    (hbpp : r.bpp? = some bpp) {o : Nat} (ho : o < w * bpp * h) :
    m'.bitMsb o = m.bitMsb (8 * lineBytes w bpp * (o / (w * bpp)) + o % (w * bpp)) := by
  unfold Compacted at hc
  split_ifs at hc with hpad
  · rw [hc, if_pos ho]
  · have hbits : 8 * lineBytes w bpp = w * bpp := by
      have hdvd := dvd_rowBits hbpp hpad
      unfold lineBytes ceilDiv
      omega
    rw [hbits, Nat.div_add_mod]
    exact Mem.bitMsb_congr (hc _)

/-- R84: a data bit of a restored row is a bit of an original byte. -/
theorem RowsRestored.bitMsb {orig : Nat → Nat → Nat} {lb k y x : Nat} {m : Mem} (h : RowsRestored orig lb k m)
    (hy : y < k) (hx : x < 8 * lb) : m.bitMsb (8 * lb * y + x) = orig y (x / 8) / 2 ^ (7 - x % 8) % 2 := by
  rw [Mem.bitMsb_eq, Nat.mul_assoc, Nat.mul_add_div (by decide), Nat.mul_add_mod, h y hy (x / 8) (by omega)]

theorem State.Defiltered.bitMsb {s t : State} {orig : Nat → Nat → Nat} (h : s.Defiltered orig t)
    (hbpp : s.regs.bpp? = some s.engine.bpp) {o : Nat}
    (ho : o < s.regs.frameW.toNat * s.engine.bpp * s.regs.frameH.toNat) :
    t.mems.out.bitMsb o =
      orig (o / (s.regs.frameW.toNat * s.engine.bpp)) (o % (s.regs.frameW.toNat * s.engine.bpp) / 8) /
        2 ^ (7 - o % (s.regs.frameW.toNat * s.engine.bpp) % 8) % 2 := by
  obtain ⟨m, hrows, hcompact⟩ := h.out
  have hpos : 0 < s.regs.frameW.toNat * s.engine.bpp := Nat.pos_of_mul_pos_right (Nat.zero_lt_of_lt ho)
  have hline : s.regs.frameW.toNat * s.engine.bpp ≤ 8 * s.lb := by unfold State.lb lineBytes ceilDiv; omega
  rw [bitMsb_of_compacted hcompact hbpp ho]
  exact hrows.bitMsb (Nat.div_lt_of_lt_mul ho) ((Nat.mod_lt o hpos).trans_le hline)

/-- Settles O52: the rows are restored one step at a time, and what the last step leaves is packed. -/
theorem defilterInvertsTheForwardFilters : Obligations.DefilterInvertsTheForwardFilters := by
  intro s types orig hbusy hbus hbounds hphase hrow w h bpp lb bw left above aboveLeft htypes hbytes
  have hs : s.AtFirstRow := ⟨hbusy, hbus, hbounds, hphase, hrow⟩
  have hfilt : s.HoldsFiltered types orig := ⟨htypes, hbytes⟩
  obtain ⟨n, hn⟩ := Nat.exists_eq_add_of_le' hs.frameH_pos
  obtain ⟨t, hrun, ht⟩ := (State.Restored.zero (orig := orig) hrow).run hs hfilt (n := n) (by omega)
  rw [← hn] at hrun
  exact ⟨t, hrun, ht.status, ht.outSize, fun o ho => ht.bitMsb hs.matched ho⟩

end Sys2Proof.Machine
end

section
/-! PROOFS. The blend formulas (R232): their range, and where the modes agree (R233, R234). -/

namespace Sys2Proof.Machine

/-! ### The blend of bytes (R232) -/

/-- R233: the two weights add up to 255, so the sum is at most 255 times the largest byte. -/
theorem weighted_sum_le {s a t : Nat} (hs : s ≤ 255) (ha : a ≤ 255) (ht : t ≤ 255) :
    s * a + t * (255 - a) ≤ 255 * 255 :=
  calc s * a + t * (255 - a)
    _ ≤ 255 * a + 255 * (255 - a) := Nat.add_le_add (Nat.mul_le_mul_right a hs) (Nat.mul_le_mul_right _ ht)
    _ = 255 * 255 := by omega

theorem blendChannel_singleDiv_le {s a t : Nat} (hs : s ≤ 255) (ha : a ≤ 255) (ht : t ≤ 255) :
    blendChannel .singleDiv s a t ≤ 255 :=
  Nat.div_le_of_le_mul (weighted_sum_le hs ha ht)

/-- R234: two floors sum to no more than the floor of the sum. -/
theorem blendChannel_perTerm_le_singleDiv (s a t : Nat) : blendChannel .perTerm s a t ≤ blendChannel .singleDiv s a t :=
  Nat.div_add_div_le_add_div ..

/-- R234: the two floors lose less than 2 in total. -/
theorem blendChannel_singleDiv_le_perTerm_succ (s a t : Nat) :
    blendChannel .singleDiv s a t ≤ blendChannel .perTerm s a t + 1 := by
  unfold blendChannel
  dsimp only
  omega

/-- R232: REF_TRUNC truncates the alpha to 0 or 1, so it selects. -/
theorem blendChannel_refTrunc {a : Nat} (s t : Nat) (ha : a ≤ 255) :
    blendChannel .refTrunc s a t = if a = 255 then s else t := by
  split_ifs with hopaque
  · simp [blendChannel, hopaque]
  · simp [blendChannel, Nat.div_eq_of_lt (show a < 255 by omega)]

theorem blendChannel_opaque (m : BlendMode) (s t : Nat) : blendChannel m s 255 t = s := by
  cases m <;> simp [blendChannel]

theorem blendChannel_transparent (m : BlendMode) (s t : Nat) : blendChannel m s 0 t = t := by
  cases m <;> simp [blendChannel]

/-- Settles O58: SINGLE_DIV is bounded by its weights, PER_TERM by SINGLE_DIV, and REF_TRUNC selects one of the two bytes. -/
theorem theClampNeverActs : Obligations.TheClampNeverActs := by
  intro s a t hs ha ht
  have hsingle := blendChannel_singleDiv_le hs ha ht
  have hselect : blendChannel .refTrunc s a t = s ∨ blendChannel .refTrunc s a t = t := by
    rw [blendChannel_refTrunc s t ha]
    exact ite_eq_or_eq ..
  refine ⟨fun m => ?_, hselect⟩
  cases m with
  | singleDiv => exact hsingle
  | perTerm => exact (blendChannel_perTerm_le_singleDiv s a t).trans hsingle
  | refTrunc => omega

/-- Settles O59: the corner cases of the alpha, the two floors against the one, and the rule's two examples. -/
theorem blendModeCornerCases : Obligations.BlendModeCornerCases := by
  refine ⟨fun s a t _ ha _ => ⟨?_, ?_, fun _ hlt => ?_, ?_, ?_⟩, by decide⟩
  · rintro rfl m
    exact blendChannel_opaque m s t
  · rintro rfl m
    exact blendChannel_transparent m s t
  · rw [blendChannel_refTrunc s t ha, if_neg hlt.ne]
  · exact blendChannel_perTerm_le_singleDiv s a t
  · exact blendChannel_singleDiv_le_perTerm_succ s a t

end Sys2Proof.Machine
end

section
/-! PROOFS. The three steps of a COMPOSITE cycle (R224 to R231, R237), pixel by pixel, and the codes that select them. -/

namespace Sys2Proof.Machine

open Sys2Proof.Claims

/-! ### The bytes of a pixel (R80, R81) -/

section
variable {w h x y c : Nat} (hx : x < w) (hc : c < 4)
include hx hc

@[simp] theorem pixelX_pixelByte : pixelX w (pixelByte w x y c) = x := by
  rw [pixelX, pixelByte, show (4 * (y * w + x) + c) / 4 = x + w * y by rw [Nat.mul_comm w y]; omega,
    Nat.add_mul_mod_self_left, Nat.mod_eq_of_lt hx]

@[simp] theorem pixelY_pixelByte : pixelY w (pixelByte w x y c) = y := by
  rw [pixelY, pixelByte, show (4 * (y * w + x) + c) / 4 = x + w * y by rw [Nat.mul_comm w y]; omega,
    Nat.add_mul_div_left _ _ (by omega), Nat.div_eq_of_lt hx, Nat.zero_add]

omit hx in
@[simp] theorem pixelChannel_pixelByte : pixelChannel (pixelByte w x y c) = c := by
  rw [pixelChannel, pixelByte]
  omega

/-- The pixels of a buffer of `h` rows lie in its 4·w·h bytes. -/
theorem pixelByte_lt (hy : y < h) : pixelByte w x y c < 4 * w * h := by
  have hrow : (y + 1) * w ≤ h * w := Nat.mul_le_mul_right w hy
  rw [Nat.add_one_mul] at hrow
  rw [pixelByte, Nat.mul_assoc, Nat.mul_comm w h]
  omega

/-- What a rewrite of the pixel bytes of a buffer leaves at one of them. -/
theorem read_fill_pixelByte (hy : y < h) (f : Nat → Byte → Byte) (m : Mem) :
    Mem.read (Mem.fill 0 (4 * w * h) f m) (pixelByte w x y c) =
      f (pixelByte w x y c) (Mem.read m (pixelByte w x y c)) :=
  Mem.read_fill_in (Nat.zero_le _) ((pixelByte_lt hx hc hy).trans_eq (Nat.zero_add _).symm)

end

/-- The bytes past the pixels of a buffer are no part of its rewrite. -/
theorem read_fill_past {n a : Nat} {m : Mem} (ha : n ≤ a) (f : Nat → Byte → Byte) :
    Mem.read (Mem.fill 0 n f m) a = Mem.read m a :=
  Mem.read_fill_out (.inr ((Nat.zero_add n).trans_le ha))

theorem Rect.has_iff {r : Rect} {x y : Nat} :
    r.has x y = true ↔ r.x ≤ x ∧ x < r.x + r.w ∧ r.y ≤ y ∧ y < r.y + r.h := by
  simp [Rect.has, and_assoc]

theorem prevRect_has (s : State) (x y : Nat) : s.regs.prevRect.has x y = inPrev s x y :=
  Bool.eq_iff_iff.2 (Rect.has_iff.trans decide_eq_true_iff.symm)

theorem frameRect_has (s : State) (x y : Nat) : s.regs.frameRect.has x y = inFrame s x y :=
  Bool.eq_iff_iff.2 (Rect.has_iff.trans decide_eq_true_iff.symm)

/-! ### What a step of the cycle keeps -/

/-- Writes of one memory alone keep all else the host can see, STATUS and the registers apart. -/
theorem keeps_setMem (s : State) (id : MemId) (m : Mem) : Keeps [id] [] s (s.setMem id m) where
  mems id' hid a := by rw [State.rd_setMem, if_neg (by simpa using hid)]
  tables _ _ := rfl
  host := ⟨rfl, rfl, rfl, rfl⟩

/-! ### The dispose codes (R122) -/

/-- The valid dispose codes at one of their uses. -/
def disposeCodes (u : DisposeUse) : List (Instr × Nat) :=
  [(.disposeNone u, 0), (.disposeBackground u, 1), (.disposePrevious u, 2)]

theorem mem_disposeCodes {u : DisposeUse} {i : Instr} {d : Nat} : (i, d) ∈ disposeCodes u ↔
    i = .disposeNone u ∧ d = 0 ∨ i = .disposeBackground u ∧ d = 1 ∨ i = .disposePrevious u ∧ d = 2 := by
  simp [disposeCodes]

theorem exec_disposeCheck {i : Instr} {d : Nat} (hmem : (i, d) ∈ disposeCodes .check) (s : State) :
    exec i s = .next (s.goto .blendCheck) := by
  obtain ⟨rfl, rfl⟩ | ⟨rfl, rfl⟩ | ⟨rfl, rfl⟩ := mem_disposeCodes.1 hmem <;> rfl

/-! ### Step 1 (R224 to R226) -/

/-- CANVAS after step 1 with the dispose code `d`. -/
def State.canvasDisposed (s : State) (d : Nat) : Mem :=
  match d with
  | 1 => s.canvasBackground
  | 2 => s.canvasRestored
  | _ => s.mems.canvas

/-- Step 1 with the dispose code `d`; step 2 comes next. -/
def State.disposed (s : State) (d : Nat) : State := disposeRestored (s.setMem .canvas (s.canvasDisposed d))

theorem exec_restore {i : Instr} {d : Nat} (hmem : (i, d) ∈ disposeCodes .restore) (s : State) :
    exec i s = .next (s.disposed d) := by
  obtain ⟨rfl, rfl⟩ | ⟨rfl, rfl⟩ | ⟨rfl, rfl⟩ := mem_disposeCodes.1 hmem <;> rfl

/-! What each code leaves of a pixel, said once for the rule's side and once for the model's. -/

theorem afterDispose_background (s : State) (x y c : Nat) :
    afterDispose s 1 x y c = if inPrev s x y then 0 else cpix s x y c := by simp [afterDispose]

theorem afterDispose_previous (s : State) (x y c : Nat) : afterDispose s 2 x y c =
    if inPrev s x y then spix s (x - s.regs.prevX.toNat) (y - s.regs.prevY.toNat) s.regs.prevW.toNat c
    else cpix s x y c := by simp [afterDispose]

theorem afterDispose_none (s : State) {d : Nat} (hback : d ≠ 1) (hprev : d ≠ 2) (x y c : Nat) :
    afterDispose s d x y c = cpix s x y c := by simp [afterDispose, hback, hprev]

theorem cpix_disposed {s : State} {x y c : Nat} (h : onCanvas s x y c) (d : Nat) :
    cpix (s.disposed d) x y c = afterDispose s d x y c := by
  obtain ⟨hx, hy, hc⟩ := h
  change Mem.read (s.canvasDisposed d) (pixelByte s.regs.canvasW.toNat x y c) = _
  unfold State.canvasDisposed
  split
  · rw [afterDispose_background, State.canvasBackground, read_fill_pixelByte hx hc hy, pixelX_pixelByte hx hc,
      pixelY_pixelByte hx hc, prevRect_has]
    rfl
  · rw [afterDispose_previous, State.canvasRestored, read_fill_pixelByte hx hc hy, pixelX_pixelByte hx hc,
      pixelY_pixelByte hx hc, pixelChannel_pixelByte hc, prevRect_has]
    rfl
  · next hback hprev => exact (afterDispose_none s hback hprev x y c).symm

theorem canvasTailKept_disposed (s : State) (d : Nat) : canvasTailKept s (s.disposed d) := by
  intro a ha
  change Mem.read (s.canvasDisposed d) a = _
  unfold State.canvasDisposed
  split
  · exact read_fill_past ha _
  · exact read_fill_past ha _
  · rfl

theorem keeps_disposed (s : State) (d : Nat) : Keeps [.canvas] [] s (s.disposed d) := (keeps_setMem s _ _).setEngine _

/-! ### Step 2 (R227) -/

/-- SNAP after step 2 with the dispose code `d`. -/
def State.snapAfter (s : State) (d : Nat) : Mem := if d = 2 then s.snapTaken else s.mems.snap

/-- Step 2 with the dispose code `d`; step 3 comes next. -/
def State.snapped (s : State) (d : Nat) : State := disposeSnapped (s.setMem .snap (s.snapAfter d))

theorem exec_snap {i : Instr} {d : Nat} (hmem : (i, d) ∈ disposeCodes .snap) (s : State) :
    exec i s = .next (s.snapped d) := by
  obtain ⟨rfl, rfl⟩ | ⟨rfl, rfl⟩ | ⟨rfl, rfl⟩ := mem_disposeCodes.1 hmem <;> rfl

theorem spix_snapped {s : State} {px py c : Nat} (hpx : px < s.regs.frameW.toNat) (hpy : py < s.regs.frameH.toNat)
    (hc : c < 4) : spix (s.snapped 2) px py s.regs.frameW.toNat c =
      cpix s (s.regs.frameX.toNat + px) (s.regs.frameY.toNat + py) c := by
  change Mem.read s.snapTaken (pixelByte s.regs.frameW.toNat px py c) = _
  simp only [State.snapTaken, Regs.frameRect, read_fill_pixelByte hpx hc hpy, pixelX_pixelByte hpx hc,
    pixelY_pixelByte hpx hc, pixelChannel_pixelByte hc]
  rfl

theorem rd_snap_snapped {s : State} {a : Nat} (ha : 4 * s.regs.frameW.toNat * s.regs.frameH.toNat ≤ a) :
    (s.snapped 2).rd .snap a = s.rd .snap a := by
  change Mem.read s.snapTaken a = _
  unfold State.snapTaken
  exact read_fill_past ha _

/-- R227: no other code writes SNAP. -/
theorem rd_snap_snapped_of_ne (s : State) {d : Nat} (hd : d ≠ 2) (a : Nat) : (s.snapped d).rd .snap a = s.rd .snap a := by
  change Mem.read (s.snapAfter d) a = _
  rw [State.snapAfter, if_neg hd]
  rfl

theorem keeps_snapped (s : State) (d : Nat) : Keeps [.snap] [] s (s.snapped d) := (keeps_setMem s _ _).setEngine _

/-- Settles O55, use by use. -/
theorem disposeCodesActOnTheirRectangles : Obligations.DisposeCodesActOnTheirRectangles := by
  intro s next
  refine ⟨fun i hi => ?_, rfl, fun i hi => ?_, fun i d hmem => ?_, s.snapped 2, rfl,
    fun _ _ _ => spix_snapped, fun _ => rd_snap_snapped, rfl, rfl, rfl, keeps_snapped s _⟩
  · simp only [List.mem_cons, List.not_mem_nil, or_false] at hi
    obtain rfl | rfl | rfl := hi <;> rfl
  · simp only [List.mem_cons, List.not_mem_nil, or_false] at hi
    obtain rfl | rfl := hi <;> rfl
  · exact ⟨s.disposed d, exec_restore (List.mem_cons_of_mem _ hmem) s, fun _ _ _ h => cpix_disposed h d,
      canvasTailKept_disposed s d, rfl, rfl, rfl, keeps_disposed s d⟩

/-! ### Step 3 and the record (R228 to R231, R237) -/

/-- R223: a number is the sum of its bits' weights, the first bit most significant. -/
theorem foldl_bits_eq_sum (b : Nat → Nat) (n : Nat) :
    (List.range n).foldl (fun v k => 2 * v + b k) 0 = ((List.range n).map fun k => b k * 2 ^ (n - 1 - k)).sum := by
  induction n with
  | zero => rfl
  | succ n ih =>
    have hdouble : ((List.range n).map fun k => b k * 2 ^ (n + 1 - 1 - k)).sum =
        2 * ((List.range n).map fun k => b k * 2 ^ (n - 1 - k)).sum := by
      rw [← List.sum_map_mul_left]
      refine congrArg List.sum (List.map_congr_left fun k hk => ?_)
      have hlt := List.mem_range.1 hk
      rw [show n + 1 - 1 - k = n - 1 - k + 1 by omega, pow_succ]
      ring
    rw [List.range_succ, List.foldl_append, ih, List.map_append, List.sum_append, hdouble]
    simp

theorem frameIndex_eq (s : State) (px py : Nat) :
    frameIndex s.mems.out s.regs.frameW.toNat s.regs.bitDepth.toNat px py = pixelIndex s px py :=
  foldl_bits_eq_sum ..

/-- The formula step 3 paints with: none for SOURCE, the selected one for OVER. -/
def State.formula (s : State) (isOver : Bool) : Option BlendMode := if isOver then some s.engine.mode else none

theorem cpix_paintFrame {s : State} {x y c : Nat} (h : onCanvas s x y c) (isOver : Bool) :
    cpix (paintFrame isOver s) x y c = afterPaint s (s.formula isOver) x y c (cpix s x y c) := by
  obtain ⟨hx, hy, hc⟩ := h
  change Mem.read (s.canvasPainted isOver) (pixelByte s.regs.canvasW.toNat x y c) = _
  simp only [State.canvasPainted, read_fill_pixelByte hx hc hy, pixelX_pixelByte hx hc, pixelY_pixelByte hx hc,
    pixelChannel_pixelByte hc, frameRect_has]
  rw [afterPaint]
  refine if_congr Iff.rfl ?_ rfl
  change BitVec.ofNat 8 (paintByte isOver _ (texelOf s (frameIndex s.mems.out s.regs.frameW.toNat _ _ _) c)
    (alphaOf s (frameIndex s.mems.out s.regs.frameW.toNat _ _ _)) _) = _
  rw [frameIndex_eq]
  cases isOver <;> rfl

theorem canvasTailKept_paintFrame (s : State) (isOver : Bool) : canvasTailKept s (paintFrame isOver s) :=
  fun _ ha => read_fill_past ha _

theorem keeps_paintFrame (s : State) (isOver : Bool) : Keeps [.canvas] [] s (paintFrame isOver s) :=
  ⟨(keeps_setMem s _ _).mems, fun _ _ => rfl, rfl, rfl, rfl, rfl⟩

/-! ### The geometry checks (R222) -/

/-- The error of the first of the checks that fails. -/
def firstFailure (checks : List (Bool × Err)) : Except Err Unit :=
  match checks.find? (fun x => x.1) with
  | some x => .error x.2
  | none => .ok ()

@[simp] theorem firstFailure_nil : firstFailure [] = .ok () := rfl

@[simp] theorem firstFailure_cons (b : Bool) (e : Err) (checks : List (Bool × Err)) :
    firstFailure ((b, e) :: checks) = if b then .error e else firstFailure checks := by
  cases b <;> rfl

theorem Rect.not_within_iff {r : Rect} {cw ch : Nat} : ¬ r.within cw ch = true ↔ cw < r.x + r.w ∨ ch < r.y + r.h := by
  simp only [Rect.within, Bool.and_eq_true, decide_eq_true_eq]
  omega

/-- R222: the model's checks after the blend code's are the rule's, in its order. -/
theorem geometryChecks_eq (s : State) : geometryChecks s = firstFailure ((compositeChecks s).drop 5) := by
  simp [geometryChecks, compositeChecks, Rect.not_within_iff, Regs.frameRect, Regs.prevRect, -Bool.not_eq_true]

theorem blendChecked_error {s : State} {c : Bool} {e : Err}
    (h : ((compositeChecks s).drop 5).find? (fun x => x.1) = some (c, e)) : blendChecked s = .error e := by
  rw [blendChecked, geometryChecks_eq, firstFailure, h]

theorem blendChecked_ok {s : State} (h : ((compositeChecks s).drop 5).find? (fun x => x.1) = none) :
    blendChecked s = .ok (s.goto .disposeRestore) := by
  rw [blendChecked, geometryChecks_eq, firstFailure, h]

/-! ### The blend codes at their two uses -/

theorem exec_blendCheck {i : Instr} (hmem : i ∈ [Instr.blendSource .check, .blendOver .check]) (s : State) :
    exec i s = settle s (blendChecked s) := by
  simp only [List.mem_cons, List.not_mem_nil, or_false] at hmem
  obtain rfl | rfl := hmem <;> rfl

theorem exec_blendPaint {i : Instr} {s : State} {m : Option BlendMode}
    (hmem : (i, m) ∈ [(Instr.blendSource .paint, none), (.blendOver .paint, some s.engine.mode)]) :
    ∃ isOver, exec i s = .next (paintFrame isOver s) ∧ s.formula isOver = m := by
  simp only [List.mem_cons, Prod.mk.injEq, List.not_mem_nil, or_false] at hmem
  obtain ⟨rfl, rfl⟩ | ⟨rfl, rfl⟩ := hmem
  · exact ⟨false, rfl, rfl⟩
  · exact ⟨true, rfl, rfl⟩

/-- Settles O56: the check is the geometry checks; the painting is one rewrite of the canvas, the record and the end. -/
theorem blendCodesPaintTheFrame : Obligations.BlendCodesPaintTheFrame := by
  intro s
  refine ⟨fun i hmem => ⟨fun c e hfail => ?_, fun hpass => ?_⟩, fun i m hmem => ?_⟩
  · exact raises_of_error (exec_blendCheck hmem s) (blendChecked_error hfail)
  · rw [exec_blendCheck hmem s, blendChecked_ok hpass, settle_ok]
    rfl
  · obtain ⟨isOver, hexec, rfl⟩ := exec_blendPaint hmem
    exact ⟨_, hexec, fun _ _ _ h => cpix_paintFrame h isOver, canvasTailKept_paintFrame s isOver, rfl, rfl, rfl,
      keeps_paintFrame s isOver⟩

end Sys2Proof.Machine
end

section
/-! PROOFS. A COMPOSITE from its start: its checks one by one (R222), and the cycle's three steps after them (R220). -/

namespace Sys2Proof.Machine

open Sys2Proof.Claims

/-! ### Runs -/

theorem core_run_succ_inv {s t : State} {k : Nat} (h : core.run (k + 1) s = .next t) :
    ∃ u, step s = .next u ∧ core.run k u = .next t := by
  simp only [Host.Core.run] at h
  split at h
  · next u hstep => exact ⟨u, hstep, h⟩
  · cases h
  · cases h

/-- R299: an idle engine with no access due holds its state. -/
theorem core_run_idle {s : State} (hidle : s.status.busy = false) (hbus : s.bus = []) (k : Nat) :
    core.run k s = .next s := by
  induction k with
  | zero => rfl
  | succ k ih => rw [core_run_succ (step_idle_nil hidle hbus), ih]

theorem core_run_add {s t : State} {j : Nat} (h : core.run j s = .next t) (k : Nat) :
    core.run (j + k) s = core.run k t := by
  induction j generalizing s with
  | zero =>
    cases h
    rw [Nat.zero_add]
  | succ j ih =>
    obtain ⟨u, hstep, hrun⟩ := core_run_succ_inv h
    rw [Nat.succ_add, core_run_succ hstep, ih hrun]

theorem State.Inv.core_run {s t : State} (hinv : s.Inv) {k : Nat} (h : core.run k s = .next t) : t.Inv := by
  induction k generalizing s with
  | zero =>
    cases h
    exact hinv
  | succ k ih =>
    obtain ⟨u, hstep, hrun⟩ := core_run_succ_inv h
    exact ih (everyStepKeepsTheInvariant s u hinv hstep) hrun

/-- A running command with no access due reads its next code and runs it. -/
theorem step_of_fetch {s : State} (hinv : s.Inv) (hbusy : s.status.busy = true) (hbus : s.bus = []) {fmt : Format} {w : Nat}
    {i : Instr} (hfetch : fetch s = .ok (fmt, w, s)) (hdec : decode fmt w = .ok i) : step s = exec i s :=
  (step_busy_nil hbusy hbus).trans (engineStep_of_fetch (hinv.engine.1 hbusy) hfetch hdec)

/-! ### What the codes decode to (R31, R122, R200) -/

theorem decode_dispose {d : Nat} (hd : d ≤ 2) (u : DisposeUse) :
    ∃ i, (i, d) ∈ disposeCodes u ∧ decode (.dispose u) d = .ok i := by
  interval_cases d
  · exact ⟨.disposeNone u, by simp [disposeCodes], rfl⟩
  · exact ⟨.disposeBackground u, by simp [disposeCodes], rfl⟩
  · exact ⟨.disposePrevious u, by simp [disposeCodes], rfl⟩

theorem decode_blend {b : Nat} (hb : b ≤ 1) (u : BlendUse) :
    ∃ i ∈ [Instr.blendSource u, .blendOver u], decode (.blend u) b = .ok i := by
  interval_cases b
  · exact ⟨.blendSource u, by simp, rfl⟩
  · exact ⟨.blendOver u, by simp, rfl⟩

theorem decode_blendPaint {b : BitVec 8} (hb : b.toNat ≤ 1) (m : BlendMode) :
    ∃ i, (i, if b = 0 then none else some m) ∈ [(Instr.blendSource .paint, none), (.blendOver .paint, some m)] ∧
      decode (.blend .paint) b.toNat = .ok i := by
  obtain h | h : b.toNat = 0 ∨ b.toNat = 1 := by omega
  · obtain rfl : b = 0 := BitVec.eq_of_toNat_eq h
    exact ⟨.blendSource .paint, by simp, rfl⟩
  · obtain rfl : b = 1 := BitVec.eq_of_toNat_eq h
    exact ⟨.blendOver .paint, by simp, rfl⟩

/-- The legal blend modes (R232). -/
def blendModes : List (Instr × BlendMode) :=
  [(.blendModeSingleDiv, .singleDiv), (.blendModePerTerm, .perTerm), (.blendModeRefTrunc, .refTrunc)]

theorem decode_blendMode {x : BitVec 2} (hx : x.toNat ≠ 3) :
    ∃ i m, (i, m) ∈ blendModes ∧ decode .blendMode x.toNat = .ok i ∧ blendModeOf x = some m := by
  have hlt := x.isLt
  obtain h | h | h : x.toNat = 0 ∨ x.toNat = 1 ∨ x.toNat = 2 := by omega
  · exact ⟨.blendModeSingleDiv, .singleDiv, by simp [blendModes], by rw [h]; rfl, by simp [blendModeOf, h]⟩
  · exact ⟨.blendModePerTerm, .perTerm, by simp [blendModes], by rw [h]; rfl, by simp [blendModeOf, h]⟩
  · exact ⟨.blendModeRefTrunc, .refTrunc, by simp [blendModes], by rw [h]; rfl, by simp [blendModeOf, h]⟩

/-- R200: an indexed pixel takes as many bits as its depth says. -/
theorem bpp_of_indexed {i : Instr} {d bpp : Nat} (hmem : (i, 3, d, bpp) ∈ formats) : bpp = d := by
  have hall : ∀ f ∈ formats, f.2.1 = 3 → f.2.2.2 = f.2.2.1 := by decide
  exact hall _ hmem rfl

/-! ### An error of a COMPOSITE (R286, R287) -/

theorem Tables.ext_get {ts ts' : Tables} (h : ∀ id, ts.get id = ts'.get id) : ts = ts' := by
  obtain ⟨tll, td, tcl⟩ := ts
  obtain ⟨tll', td', tcl'⟩ := ts'
  obtain rfl : tll = tll' := h .tll
  obtain rfl : td = td' := h .td
  obtain rfl : tcl = tcl' := h .tcl
  rfl

/-- The working registers play no part in what an error does, but that it may end a dynamic header (R287). -/
theorem Raised.of_setEngine {e : Err} {s t : State} {x : Engine} (hx : x.phase ≠ .codeLens)
    (hs : s.engine.phase ≠ .codeLens) (h : Raised e (s.setEngine x) t) : Raised e s t := by
  have htables : (s.setEngine x).unspecifiedTables e = s.unspecifiedTables e := (if_neg hx).trans (if_neg hs).symm
  exact ⟨h.status, h.site, h.regs, h.positions, h.outSize, h.mems, h.out, htables ▸ h.tables, h.rest⟩

/-- An error of a started COMPOSITE leaves nothing unspecified: the command writes neither OUT, nor a table RAM, nor a
register of R34 and R35. -/
theorem Raised.composite_frame {e : Err} {s t : State} (htables : (s.started 5).unspecifiedTables e = [])
    (h : Raised e (s.started 5) t) : (∀ id a, t.rd id a = s.rd id a) ∧ t.tables = s.tables ∧
      t.regs = { s.regs with op := 5, errSite := e.site } := by
  refine ⟨fun id a => ?_, Tables.ext_get fun id => ?_, ?_⟩
  · by_cases hid : id = .out
    · subst hid
      exact h.out a (Nat.zero_le a)
    · exact h.mems id hid a
  · refine h.tables id ?_
    rw [htables]
    exact List.not_mem_nil
  · obtain ⟨hpos, hbit⟩ := h.positions rfl
    rw [h.regs, h.site, hpos, hbit, h.outSize rfl]
    rfl

theorem compositeChecks_tables {s : State} {x : Bool × Err} (hmem : x ∈ compositeChecks s) : x.2.tables = [] := by
  simp only [compositeChecks, List.mem_cons, List.not_mem_nil, or_false] at hmem
  obtain rfl | rfl | rfl | rfl | rfl | rfl | rfl | rfl | rfl | rfl | rfl := hmem <;> rfl

/-! ### The checks one by one (R222) -/

/-- What a COMPOSITE is started from: an idle engine whose host is quiet. -/
structure State.Composable (s : State) : Prop where
  inv : s.Inv
  idle : s.idle
  bus : s.bus = []

theorem State.Composable.phase {s : State} (h : s.Composable) : s.engine.phase = .idle := h.inv.engine.2 h.idle.1

/-- `s` with COMPOSITE started and standing at `p`, with the formula `m` and `d` bits per pixel in its working registers. -/
def State.compositing (s : State) (p : Phase) (m : BlendMode) (d : Nat) : State :=
  (s.started 5).setEngine { s.engine with phase := p, mode := m, bpp := d }

theorem exec_composite {s : State} (hidle : s.idle) :
    exec .composite s = .next (s.compositing .format s.engine.mode s.engine.bpp) := by
  obtain ⟨hbusy, herror⟩ := hidle
  change startCommand 5 (fun s => .ok (s.goto .format)) s = _
  rw [startCommand, if_neg (by simp [hbusy])]
  exact if_neg (by simp [herror])

/-- From `u`, `k` steps of the COMPOSITE started in `s` make the checks `cs`: they end in the error of the first that fails,
or, if none does, where step 1 comes next, with a legal formula and the format's bits per pixel latched. -/
structure Checks (s : State) (cs : List (Bool × Err)) (k : Nat) (u : State) : Prop where
  fails : ∀ c e, cs.find? (fun x => x.1) = some (c, e) → ∃ t, core.run k u = .next t ∧ Raised e (s.started 5) t
  passes : cs.find? (fun x => x.1) = none → ∃ m, blendModeOf s.regs.blendMode = some m ∧
    core.run k u = .next (s.compositing .disposeRestore m s.regs.bitDepth.toNat)

theorem Checks.of_step {s u v : State} {cs : List (Bool × Err)} {k : Nat} (hstep : step u = .next v)
    (h : Checks s cs k v) : Checks s cs (k + 1) u where
  fails := by
    rw [core_run_succ hstep]
    exact h.fails
  passes := by
    rw [core_run_succ hstep]
    exact h.passes

section
variable {s : State} (hs : s.Composable)
include hs

theorem Raised.of_compositing {p : Phase} {m : BlendMode} {d : Nat} {e : Err} {t : State} (hp : p ≠ .codeLens)
    (h : Raised e (s.compositing p m d) t) : Raised e (s.started 5) t :=
  h.of_setEngine hp (by simp [State.started, hs.phase])

/-- The first check, and then the others: a step that raises leaves the engine at rest. -/
theorem Checks.cons {cs : List (Bool × Err)} {b : Bool} {e : Err} {k : Nat} {u : State}
    (hraise : b = true → ∃ t, step u = .next t ∧ Raised e (s.started 5) t)
    (hpass : b = false → Checks s cs (k + 1) u) : Checks s ((b, e) :: cs) (k + 1) u := by
  cases b with
  | false => exact ⟨(hpass rfl).fails, (hpass rfl).passes⟩
  | true =>
    obtain ⟨t, hstep, hraised⟩ := hraise rfl
    refine ⟨fun c e' hfind => ?_, fun hfind => nomatch hfind⟩
    cases hfind
    obtain ⟨-, hbus, -⟩ := hraised.rest
    have hidle : t.status.busy = false := by rw [hraised.status]
    exact ⟨t, (core_run_succ hstep k).trans (core_run_idle hidle (hbus.trans hs.bus) k), hraised⟩

/-- A check whose code does nothing but raise. -/
theorem Checks.cons_code {p : Phase} {m : BlendMode} {d : Nat} (hinv : (s.compositing p m d).Inv)
    {cs : List (Bool × Err)} {b : Bool} {e : Err} {k : Nat} {fmt : Format} {w : Nat} {i : Instr} (hp : p ≠ .codeLens)
    (hfetch : fetch (s.compositing p m d) = .ok (fmt, w, s.compositing p m d)) (hdec : b = true → decode fmt w = .ok i) (hraises : Raises i e (s.compositing p m d))
    (hpass : b = false → Checks s cs (k + 1) (s.compositing p m d)) :
    Checks s ((b, e) :: cs) (k + 1) (s.compositing p m d) := by
  refine .cons hs (fun hb => ?_) hpass
  obtain ⟨t, hexec, hraised⟩ := hraises
  exact ⟨t, (step_of_fetch hinv rfl hs.bus hfetch (hdec hb)).trans hexec, hraised.of_compositing hs hp⟩

/-- The blend code's check and those after it. -/
theorem checks_blendCheck {m : BlendMode} (hm : blendModeOf s.regs.blendMode = some m)
    (hinv : (s.compositing .blendCheck m s.regs.bitDepth.toNat).Inv) :
    Checks s ((compositeChecks s).drop 4) 1 (s.compositing .blendCheck m s.regs.bitDepth.toNat) := by
  obtain ⟨-, -, -, -, -, hinvalid, -⟩ := illegalCodesRaiseTheirErrors (s.compositing .blendCheck m s.regs.bitDepth.toNat)
  refine .cons_code hs hinv (fmt := .blend .check) (by decide) rfl
    (fun hb => decodeBlend_invalid .check (of_decide_eq_true hb) s.regs.blend.isLt) (hinvalid _) fun hb => ?_
  obtain ⟨i, hmem, hdec⟩ := decode_blend (Nat.le_of_not_lt (of_decide_eq_false hb)) .check
  have hstep := step_of_fetch hinv rfl hs.bus (fmt := .blend .check) rfl hdec
  obtain ⟨hgeometry, -⟩ := blendCodesPaintTheFrame (s.compositing .blendCheck m s.regs.bitDepth.toNat)
  obtain ⟨hfails, hpasses⟩ := hgeometry i hmem
  refine ⟨fun c e hfind => ?_, fun hfind => ⟨m, hm, core_run_succ (hstep.trans (hpasses hfind)) 0⟩⟩
  obtain ⟨t, hexec, hraised⟩ := hfails c e hfind
  exact ⟨t, core_run_succ (hstep.trans hexec) 0, hraised.of_compositing hs (by decide)⟩

/-- The dispose code's check and those after it. -/
theorem checks_disposeCheck {m : BlendMode} (hm : blendModeOf s.regs.blendMode = some m)
    (hinv : (s.compositing .disposeCheck m s.regs.bitDepth.toNat).Inv) :
    Checks s ((compositeChecks s).drop 3) 2 (s.compositing .disposeCheck m s.regs.bitDepth.toNat) := by
  obtain ⟨-, -, -, -, hinvalid, -⟩ := illegalCodesRaiseTheirErrors (s.compositing .disposeCheck m s.regs.bitDepth.toNat)
  refine .cons_code hs hinv (fmt := .dispose .check) (by decide) rfl
    (fun hb => decodeDispose_invalid .check (of_decide_eq_true hb) s.regs.dispose.isLt) (hinvalid _) fun hb => ?_
  obtain ⟨i, hmem, hdec⟩ := decode_dispose (Nat.le_of_not_lt (of_decide_eq_false hb)) .check
  have hstep := (step_of_fetch hinv rfl hs.bus (fmt := .dispose .check) rfl hdec).trans (exec_disposeCheck hmem _)
  exact .of_step hstep (checks_blendCheck hs hm (everyStepKeepsTheInvariant _ _ hinv hstep))

/-- BLEND_MODE's check and those after it. -/
theorem checks_blendMode (hinv : (s.compositing .blendMode s.engine.mode s.regs.bitDepth.toNat).Inv) :
    Checks s ((compositeChecks s).drop 2) 3 (s.compositing .blendMode s.engine.mode s.regs.bitDepth.toNat) := by
  obtain ⟨-, -, -, -, -, -, hreserved, -⟩ :=
    illegalCodesRaiseTheirErrors (s.compositing .blendMode s.engine.mode s.regs.bitDepth.toNat)
  refine .cons_code hs hinv (fmt := .blendMode) (w := s.regs.blendMode.toNat) (by decide) rfl
    (fun hb => by rw [eq_of_beq hb]; rfl) hreserved fun hb => ?_
  obtain ⟨i, m, hmem, hdec, hm⟩ := decode_blendMode (ne_of_beq_false hb)
  obtain ⟨hexec, -⟩ := blendModesSelectTheirFormula (s.compositing .blendMode s.engine.mode s.regs.bitDepth.toNat) i m hmem
  have hstep := (step_of_fetch hinv rfl hs.bus (fmt := .blendMode) rfl hdec).trans hexec
  exact .of_step hstep (checks_disposeCheck hs hm (everyStepKeepsTheInvariant _ _ hinv hstep))

/-- All the checks: the format's come first. -/
theorem checks_format (hinv : (s.compositing .format s.engine.mode s.engine.bpp).Inv) :
    Checks s (compositeChecks s) 4 (s.compositing .format s.engine.mode s.engine.bpp) := by
  obtain ⟨hunmatched, hmatched⟩ := formatsAreMatchedOrRejected
  refine .cons hs (fun hb => ?_) fun hb => ?_
  · obtain ⟨t, hstep, hraised⟩ := hunmatched (s.compositing .format s.engine.mode s.engine.bpp) (hinv.engine.1 rfl) rfl
      (eq_of_beq hb)
    exact ⟨t, (step_busy_nil (s := s.compositing .format _ _) rfl hs.bus).trans hstep, hraised.of_compositing hs (by decide)⟩
  obtain ⟨bpp, hbpp⟩ := Option.ne_none_iff_exists'.1 (ne_of_beq_false hb)
  obtain ⟨⟨i, f⟩, hmem, heq⟩ := List.mem_map.1 (formatBpp_eq_some_iff.1 hbpp)
  obtain rfl : f = _ := heq
  obtain ⟨hdec, -, -, -, hcomposite⟩ := hmatched (s.compositing .format s.engine.mode s.engine.bpp) i _ _ _ hmem
  obtain ⟨hindexed, hother⟩ := hcomposite rfl
  have hstep := step_of_fetch hinv rfl hs.bus (fmt := .color) rfl hdec
  refine .cons hs (fun hct => ?_) fun hct => ?_
  · obtain ⟨t, hexec, hraised⟩ := hother (by simpa using hct)
    exact ⟨t, hstep.trans hexec, hraised.of_compositing hs (by decide)⟩
  · have hct : s.regs.colorType.toNat = 3 := by simpa using hct
    rw [hct] at hmem
    obtain rfl := bpp_of_indexed hmem
    have hstep := hstep.trans (hindexed hct)
    exact .of_step hstep (checks_blendMode hs (everyStepKeepsTheInvariant _ _ hinv hstep))

end

/-- Settles O53, check by check: the code read at each point raises its error or lets the command go on to the next check,
and an error of a COMPOSITE leaves nothing unspecified. -/
theorem compositeRaisesTheFirstFailingCheck : Obligations.CompositeRaisesTheFirstFailingCheck := by
  intro s hinv hidle hbus
  have hs : s.Composable := ⟨hinv, hidle, hbus⟩
  have hexec := exec_composite hidle
  have hstarted := hinv.nextInv_cmd (w := 5) rfl _ hexec
  obtain ⟨hfails, hpasses⟩ := checks_format hs hstarted
  refine ⟨_, hexec, fun c e hfind => ?_, fun hfind => ?_⟩
  · obtain ⟨t, hrun, hraised⟩ := hfails c e hfind
    have htables : (s.started 5).unspecifiedTables e = e.tables := if_neg (by simp [State.started, hs.phase])
    have hnone : e.tables = [] := compositeChecks_tables (List.mem_of_find?_eq_some hfind)
    exact ⟨t, hrun, hraised, hraised.composite_frame (htables.trans hnone)⟩
  · obtain ⟨m, hm, hrun⟩ := hpasses hfind
    exact ⟨_, m, hrun, hm, rfl⟩

/-! ### The whole cycle (R220, R223 to R232, R237) -/

/-- R222: what the cycle needs of the checks that have passed. -/
theorem compositeChecks_passed {s : State} (h : (compositeChecks s).find? (fun x => x.1) = none) :
    s.regs.dispose.toNat ≤ 2 ∧ s.regs.blend.toNat ≤ 1 ∧
      s.regs.frameX.toNat + s.regs.frameW.toNat ≤ s.regs.canvasW.toNat ∧
      s.regs.frameY.toNat + s.regs.frameH.toNat ≤ s.regs.canvasH.toNat := by
  have hall := List.find?_eq_none.1 h
  simp only [compositeChecks, List.forall_mem_cons] at hall
  obtain ⟨-, -, -, hdispose, hblend, -, -, hframe, -⟩ := hall
  have hwithin : s.regs.frameX.toNat + s.regs.frameW.toNat ≤ s.regs.canvasW.toNat ∧
      s.regs.frameY.toNat + s.regs.frameH.toNat ≤ s.regs.canvasH.toNat := by simpa using hframe
  exact ⟨by simpa using hdispose, by simpa using hblend, hwithin⟩

/-- More may change than does. -/
theorem Keeps.mono {ms ms' : List MemId} {ts : List TableId} {s t : State} (h : Keeps ms ts s t) (hms : ms ⊆ ms') :
    Keeps ms' ts s t :=
  ⟨fun id hid => h.mems id (fun hmem => hid (hms hmem)), h.tables, h.host⟩

/-- R220: one step of the cycle after another. -/
theorem Keeps.comp {ms : List MemId} {ts : List TableId} {s t u : State} (h : Keeps ms ts s t) (h' : Keeps ms ts t u) :
    Keeps ms ts s u where
  mems id hid a := (h'.mems id hid a).trans (h.mems id hid a)
  tables id hid := (h'.tables id hid).trans (h.tables id hid)
  host := by
    obtain ⟨hbus, hrdata, hfree, hparams⟩ := h.host
    obtain ⟨hbus', hrdata', hfree', hparams'⟩ := h'.host
    exact ⟨hbus'.trans hbus, hrdata'.trans hrdata, hfree'.trans hfree, hparams'.trans hparams⟩

section
variable {s : State} {m : BlendMode}

/-- R220: `s` with COMPOSITE's checks passed; step 1 comes next. -/
def State.checked (s : State) (m : BlendMode) : State := s.compositing .disposeRestore m s.regs.bitDepth.toNat

/-- R220: `s` with the previous frame disposed; step 2 comes next. -/
def State.afterStep1 (s : State) (m : BlendMode) : State := (s.checked m).disposed s.regs.prevDispose.toNat

/-- R220: `s` with the snapshot taken, if there is one to take; step 3 comes next. -/
def State.afterStep2 (s : State) (m : BlendMode) : State := (s.afterStep1 m).snapped s.regs.dispose.toNat

theorem cpix_afterStep2 {x y c : Nat} (h : onCanvas s x y c) :
    cpix (s.afterStep2 m) x y c = afterDispose s s.regs.prevDispose.toNat x y c :=
  cpix_disposed (s := s.checked m) h s.regs.prevDispose.toNat

theorem canvasTailKept_afterStep2 : canvasTailKept s (s.afterStep2 m) :=
  canvasTailKept_disposed (s.checked m) s.regs.prevDispose.toNat

theorem keeps_afterStep2 : Keeps [.canvas, .snap] [] s (s.afterStep2 m) := by
  have hchecked : Keeps [.canvas, .snap] [] s (s.checked m) := ⟨fun _ _ _ => rfl, fun _ _ => rfl, rfl, rfl, rfl, rfl⟩
  exact (hchecked.comp ((keeps_disposed _ _).mono (by simp))).comp ((keeps_snapped _ _).mono (by simp))

/-- R227: with DISPOSE = 2, SNAP is the frame's rectangle as step 1 left it. -/
theorem spix_afterStep2 (hd : s.regs.dispose.toNat = 2) {px py c : Nat} (hpx : px < s.regs.frameW.toNat)
    (hpy : py < s.regs.frameH.toNat) (hc : c < 4) :
    spix (s.afterStep2 m) px py s.regs.frameW.toNat c =
      cpix (s.afterStep2 m) (s.regs.frameX.toNat + px) (s.regs.frameY.toNat + py) c := by
  rw [State.afterStep2, hd]
  exact spix_snapped (s := s.afterStep1 m) hpx hpy hc

theorem rd_snap_afterStep2 (hd : s.regs.dispose.toNat = 2) {a : Nat}
    (ha : 4 * s.regs.frameW.toNat * s.regs.frameH.toNat ≤ a) : (s.afterStep2 m).rd .snap a = s.rd .snap a := by
  rw [State.afterStep2, hd]
  exact rd_snap_snapped (s := s.afterStep1 m) ha

theorem rd_snap_afterStep2_of_ne (hd : s.regs.dispose.toNat ≠ 2) (a : Nat) :
    (s.afterStep2 m).rd .snap a = s.rd .snap a :=
  rd_snap_snapped_of_ne (s.afterStep1 m) hd a

theorem afterPaint_afterStep2 (f : Option BlendMode) (x y c : Nat) (old : Byte) :
    afterPaint (s.afterStep2 m) f x y c old = afterPaint s f x y c old := rfl

/-- R220, R224, R227: the steps 1 and 2 of a COMPOSITE that has passed its checks. -/
theorem run_afterStep2 (hinv : (s.checked m).Inv) (hbus : s.bus = []) (hprev : s.regs.prevDispose.toNat ≤ 2)
    (hdispose : s.regs.dispose.toNat ≤ 2) : core.run 2 (s.checked m) = .next (s.afterStep2 m) := by
  obtain ⟨i, hmem, hdec⟩ := decode_dispose hprev .restore
  have hstep : step (s.checked m) = .next (s.afterStep1 m) :=
    (step_of_fetch hinv rfl hbus (fmt := .dispose .restore) rfl hdec).trans (exec_restore hmem _)
  obtain ⟨i', hmem', hdec'⟩ := decode_dispose hdispose .snap
  have hstep' : step (s.afterStep1 m) = .next (s.afterStep2 m) :=
    (step_of_fetch (everyStepKeepsTheInvariant _ _ hinv hstep) rfl hbus (fmt := .dispose .snap) rfl hdec').trans
      (exec_snap hmem' _)
  exact core_run_two hstep hstep'

end

/-- Settles O54: four steps make the checks, two dispose and snapshot, and the seventh paints, records and ends, by the
statement about the blend codes. -/
theorem compositeDisposesSnapshotsPaintsAndRecords : Obligations.CompositeDisposesSnapshotsPaintsAndRecords := by
  intro s m hinv hidle hbus hpass hm
  obtain ⟨hdispose, hblend, hframeX, hframeY⟩ := compositeChecks_passed hpass
  obtain ⟨u, hexec, -, hpasses⟩ := compositeRaisesTheFirstFailingCheck s hinv hidle hbus
  obtain ⟨_, m', hchecks, hm', rfl⟩ := hpasses hpass
  obtain rfl : m' = m := Option.some.inj (hm'.symm.trans hm)
  have hchecked : (s.checked m').Inv := (hinv.nextInv_cmd (w := 5) rfl u hexec).core_run hchecks
  have hsteps := run_afterStep2 hchecked hbus hinv.prev hdispose
  obtain ⟨i, hmem, hdec⟩ := decode_blendPaint hblend m'
  obtain ⟨-, hpaints⟩ := blendCodesPaintTheFrame (s.afterStep2 m')
  obtain ⟨t, hpaint, hcanvas, htail, hregs, hstatus, -, hkeeps⟩ := hpaints i _ hmem
  have hstep := (step_of_fetch (hchecked.core_run hsteps) rfl hbus (fmt := .blend .paint) rfl hdec).trans hpaint
  have hrun : core.run 7 u = .next t := by
    rw [core_run_add (j := 4) hchecks 3]
    exact (core_run_add hsteps 1).trans (core_run_succ hstep 0)
  have hsnap (a : Nat) : t.rd .snap a = (s.afterStep2 m').rd .snap a := hkeeps.mems .snap (by simp) a
  refine ⟨u, t, hexec, hrun, hstatus, hregs, fun x y c h => ?_, fun a ha => ?_, fun hd => ?_, fun hd a => ?_, ?_⟩
  · rw [hcanvas x y c h, cpix_afterStep2 h, afterPaint_afterStep2]
  · exact (htail a ha).trans (canvasTailKept_afterStep2 a ha)
  · have hd : s.regs.dispose.toNat = 2 := by rw [hd]; rfl
    refine ⟨fun px py c hpx hpy hc => ?_, fun a ha => (hsnap a).trans (rd_snap_afterStep2 hd ha)⟩
    exact ((hsnap _).trans (spix_afterStep2 hd hpx hpy hc)).trans (cpix_afterStep2 ⟨by omega, by omega, hc⟩)
  · have hd : s.regs.dispose.toNat ≠ 2 := fun h => hd (BitVec.eq_of_toNat_eq h)
    exact (hsnap a).trans (rd_snap_afterStep2_of_ne hd a)
  · exact keeps_afterStep2.comp (hkeeps.mono (by simp))

end Sys2Proof.Machine
end

section
/-! PROOFS. The footprint of a running command (R260, R287): what an element may change, and that each element, wherever it
is read, changes no more. -/

namespace Sys2Proof.Machine

open Sys2Proof.Claims

/-! ### The row of R260 -/

/-- R260: the bytes the running command may write: OUT below its footprint, and COMPOSITE's two rectangles of CANVAS and, if
it takes a snapshot, the 4·W·H bytes of SNAP. -/
def State.mayWrite (s : State) : MemId → Nat → Prop
  | .out, a => a < s.outFootprint
  | .canvas, a => s.runningOp = 5 ∧
    (s.regs.frameRect.has (pixelX s.regs.canvasW.toNat a) (pixelY s.regs.canvasW.toNat a) ∨
      s.regs.prevRect.has (pixelX s.regs.canvasW.toNat a) (pixelY s.regs.canvasW.toNat a))
  | .snap, a => s.runningOp = 5 ∧ s.regs.dispose = 2 ∧ a < 4 * s.regs.frameW.toNat * s.regs.frameH.toNat
  | .inp, _ | .pal, _ | .trns, _ => False

/-- R260: the table RAMs the running command may build: any for an inflate command, the selected one for BUILD_TABLE. -/
def State.mayBuild (s : State) (id : TableId) : Prop :=
  inflates s.runningOp = true ∨ (s.runningOp = 6 ∧ s.regs.tblSel.toNat = id.sel)

/-- R260, R287: from `s` to `t` nothing changes but STATUS, the working registers, and what the row of R260 of the command
running in `s` lists; and ERR_SITE on an error. -/
structure State.Writes (s t : State) : Prop where
  mems : ∀ id a, ¬ s.mayWrite id a → t.rd id a = s.rd id a
  tables : ∀ id, ¬ s.mayBuild id → t.tables.get id = s.tables.get id
  regs : t.regs = { s.regs with errSite := t.regs.errSite, outPos := t.regs.outPos, bitPos := t.regs.bitPos,
                                outSize := t.regs.outSize, prevDispose := t.regs.prevDispose, prevX := t.regs.prevX,
                                prevY := t.regs.prevY, prevW := t.regs.prevW, prevH := t.regs.prevH }
  site : t.status.error = false → t.regs.errSite = s.regs.errSite
  positions : inflates s.runningOp = false → t.regs.outPos = s.regs.outPos ∧ t.regs.bitPos = s.regs.bitPos
  outSize : defilters s.runningOp = false → t.regs.outSize = s.regs.outSize
  prev : s.runningOp ≠ 5 → t.regs.prevDispose = s.regs.prevDispose ∧ t.regs.prevRect = s.regs.prevRect
  host : t.bus = s.bus ∧ t.rdata = s.rdata ∧ t.params = s.params

namespace State.Writes

theorem refl (s : State) : s.Writes s :=
  ⟨fun _ _ _ => rfl, fun _ _ => rfl, rfl, fun _ => rfl, fun _ => ⟨rfl, rfl⟩, fun _ => rfl, fun _ => ⟨rfl, rfl⟩, rfl, rfl, rfl⟩

variable {s t : State}

/-- The working registers have no part in what a command may write. -/
theorem of_setEngine {e : Engine} (h : (s.setEngine e).Writes t) : s.Writes t := { h with }

/-- R287: what an error leaves unspecified is within the footprint, if the table RAMs it leaves so are. -/
theorem of_raised {e : Err} (h : Raised e s t) (htables : ∀ id ∈ s.unspecifiedTables e, s.mayBuild id) : s.Writes t where
  mems id a hid := by
    by_cases hout : id = .out
    · subst hout
      exact h.out a (Nat.le_of_not_lt hid)
    · exact h.mems id hout a
  tables id hid := h.tables id fun hmem => hid (htables id hmem)
  regs := by
    rw [h.regs]
  site hok := by
    rw [h.status] at hok
    cases hok
  positions := h.positions
  outSize := h.outSize
  prev _ := by
    rw [h.regs]
    exact ⟨rfl, rfl⟩
  host := h.rest.2

variable (h : s.Writes t)
include h

theorem setEngine (e : Engine) : s.Writes (t.setEngine e) := { h with }

theorem finish : s.Writes t.finish := { h with }

theorem setMem {id : MemId} {m : Mem} (hm : ∀ a, ¬ s.mayWrite id a → Mem.read m a = t.rd id a) : s.Writes (t.setMem id m) :=
  { h with
    mems := fun id' a hid => by
      rw [State.rd_setMem]
      split_ifs with heq
      · subst heq
        exact (hm a hid).trans (h.mems id' a hid)
      · exact h.mems id' a hid }

theorem setTable {id : TableId} (hid : s.mayBuild id) (r : TableRam) : s.Writes (t.setTables (t.tables.set id r)) :=
  { h with
    tables := fun id' hid' => by
      have hne : id' ≠ id := fun heq => hid' (heq ▸ hid)
      rw [State.setTables_tables, Tables.get_set, if_neg hne]
      exact h.tables id' hid' }

/-- R34, R35 -/
theorem setPositions (hop : inflates s.runningOp = true) (x y : Word) :
    s.Writes (t.setRegs { t.regs with outPos := x, bitPos := y }) :=
  { h with
    regs := by
      rw [h.regs]
      rfl
    positions := fun hno => absurd (hop.symm.trans hno) (by decide) }

/-- R33 -/
theorem setOutSize (hop : defilters s.runningOp = true) (x : Word) :
    s.Writes (t.setRegs { t.regs with outSize := x }) :=
  { h with
    regs := by
      rw [h.regs]
      rfl
    outSize := fun hno => absurd (hop.symm.trans hno) (by decide) }

/-- R237 -/
theorem recordPrev (hop : s.runningOp = 5) : s.Writes (recordPrev t) :=
  { h with
    regs := by
      rw [Machine.recordPrev, State.setRegs_regs, h.regs]
    prev := fun hne => absurd hop hne }

end State.Writes

/-- An outcome that is a next state changes no more than the row of R260. -/
def NextWrites (s : State) (o : Host.Outcome State Fault Refusal) : Prop := ∀ t, o = .next t → s.Writes t

/-- A body changes no more than the row of R260, or raises an error that leaves no other table RAM unspecified. -/
inductive BodyWrites (s : State) : Except Err State → Prop where
  | ok {t : State} (h : s.Writes t) : BodyWrites s (.ok t)
  | error {e : Err} (h : ∀ id ∈ e.tables, s.mayBuild id) : BodyWrites s (.error e)

theorem NextWrites.next {s t : State} (h : s.Writes t) : NextWrites s (.next t) := fun _ heq => by cases heq; exact h

theorem NextWrites.of_setEngine {s : State} {e : Engine} {o : Host.Outcome State Fault Refusal}
    (h : NextWrites (s.setEngine e) o) : NextWrites s o := fun t heq => (h t heq).of_setEngine

/-- An error that is no build's leaves no table RAM unspecified. -/
theorem BodyWrites.plain {s : State} {e : Err} (h : e.tables = []) : BodyWrites s (.error e) :=
  .error (by simp [h])

/-- R287: only an inflate command stands where its error leaves the tables of a header unspecified. -/
theorem NextWrites.raise {s : State} {e : Err} (hhdr : s.engine.phase = .codeLens → inflates s.runningOp = true)
    (h : ∀ id ∈ e.tables, s.mayBuild id) : NextWrites s (.next (raise e s)) := by
  refine .next (.of_raised (raise_spec e s) fun id hid => ?_)
  unfold State.unspecifiedTables at hid
  split at hid
  · next hphase => exact .inl (hhdr hphase)
  · exact h id hid

theorem BodyWrites.settle {s : State} {body : Except Err State} (h : BodyWrites s body)
    (hhdr : s.engine.phase = .codeLens → inflates s.runningOp = true) : NextWrites s (settle s body) := by
  cases h with
  | ok h => exact .next h
  | error h => exact .raise hhdr h

end Sys2Proof.Machine
end

section
/-! PROOFS. Each element of a running command changes no more than the row of R260, and so does the step that reads it. -/

namespace Sys2Proof.Machine

open Sys2Proof.Claims

/-! ### The footprint in OUT (R260, R287) -/

theorem State.outFootprint_of_frameFits {s : State} (hop : defilters s.runningOp = true) (h : s.frameFits = true) :
    s.outFootprint = expectedSize s.regs.frameW.toNat s.regs.frameH.toNat s.engine.bpp := by
  obtain ⟨hbpp, -, -, hsize⟩ := s.frameFits_iff.mp h
  rw [State.outFootprint, if_pos hop, hbpp]
  exact Nat.min_eq_left hsize

/-- R251, R252, R254: an Inflate's capacity is its command's footprint. -/
theorem State.cap_eq_outFootprint {s : State} (hop : inflates s.runningOp = true) (h : s.capFits = true) :
    s.engine.cap = s.outFootprint := by
  have hle := State.cap_le h
  simp only [State.capFits, Bool.and_eq_true] at h
  obtain ⟨-, h⟩ := h
  split at h
  · next hop4 =>
    obtain ⟨hframe, hcap⟩ := Bool.and_eq_true_iff.mp h
    rw [State.outFootprint_of_frameFits (by rw [hop4]; rfl) hframe]
    exact eq_of_beq hcap
  · next hop4 =>
    have hcap : s.engine.cap = s.regs.outSize.toNat := eq_of_beq h
    have hno : defilters s.runningOp = false := by simp [inflates, defilters] at hop ⊢; omega
    rw [State.outFootprint, hno, if_neg Bool.false_ne_true, if_pos hop, ← hcap, Nat.min_eq_left hle]

/-! ### What the elements share -/

theorem State.Writes.of_buildInto {s u t : State} (h : s.Writes u) {id : TableId} (hid : s.mayBuild id)
    {before : List TableId} {lens : List Nat} (hbuild : buildInto id before lens u = .ok t) : s.Writes t := by
  obtain ⟨e, -, heq⟩ | ⟨T, b, -, heq⟩ := buildInto_cases id before lens u <;> cases heq.symm.trans hbuild
  exact (h.setTable hid _).setEngine _

theorem writes_goto (s : State) (p : Phase) : s.Writes (s.goto p) := (State.Writes.refl s).setEngine _

/-- Writes of OUT within the footprint. -/
theorem State.Writes.setOut {s : State} {m : Mem} {cap : Nat} (hcap : cap ≤ s.outFootprint)
    (hm : ∀ a, cap ≤ a → Mem.read m a = s.rd .out a) : s.Writes (s.setMem .out m) :=
  (State.Writes.refl s).setMem fun a ha => hm a (hcap.trans (Nat.le_of_not_lt ha))

/-! ### The Inflate (R160 to R179) -/

section
variable {s : State} (hop : inflates s.runningOp = true)
include hop

/-- R287: an error of an inflate command may leave any table RAM unspecified. -/
theorem bodyWrites_error_of_inflates (e : Err) : BodyWrites s (.error e) := .error fun _ _ => .inl hop

theorem nextWrites_settle_of_inflates {body : Except Err State} (h : BodyWrites s body) : NextWrites s (settle s body) :=
  h.settle fun _ => hop

section
variable {u : State} (h : s.Writes u)
include h

theorem writes_endInflate : BodyWrites s (endInflate u) := by
  have hpos := h.setPositions hop (BitVec.ofNat 32 u.engine.pos) (BitVec.ofNat 32 u.engine.cur)
  unfold endInflate
  dsimp only
  split_ifs
  · exact bodyWrites_error_of_inflates hop _
  · exact .ok (hpos.setEngine _)
  · exact .ok hpos.finish

theorem writes_endBlock : BodyWrites s (endBlock u) := by
  unfold endBlock
  split
  · exact writes_endInflate hop h
  · exact .ok (h.setEngine _)

theorem writes_buildBlockTables : BodyWrites s (buildBlockTables u) := by
  unfold buildBlockTables
  split
  · exact bodyWrites_error_of_inflates hop _
  next hll =>
  split
  · exact bodyWrites_error_of_inflates hop _
  · next hd => exact .ok (((h.of_buildInto (.inl hop) hll).of_buildInto (.inl hop) hd).setEngine _)

theorem writes_nextCodeLength : BodyWrites s (nextCodeLength u) := by
  unfold nextCodeLength
  split
  · exact .ok (h.setEngine _)
  · exact writes_buildBlockTables hop h

end

theorem writes_dynamicHeader : BodyWrites s (dynamicHeader s) := by
  have herr := bodyWrites_error_of_inflates hop
  unfold dynamicHeader
  split
  · exact herr _
  split
  · exact herr _
  split
  · exact herr _
  split
  · exact herr _
  dsimp only
  split
  · exact herr _
  · next hbuild => exact .ok ((((State.Writes.refl s).setEngine _).of_buildInto (.inl hop) hbuild).setEngine _)

theorem writes_repeatCount (base width v : Nat) : BodyWrites s (repeatCount base width v s) := by
  unfold repeatCount
  split
  · exact bodyWrites_error_of_inflates hop _
  unfold repeatFill
  split
  · exact bodyWrites_error_of_inflates hop _
  · exact writes_nextCodeLength hop (((State.Writes.refl s).setEngine _).setEngine _)

theorem writes_bodyClRepeatPrev : BodyWrites s (bodyClRepeatPrev s) := by
  unfold bodyClRepeatPrev
  split
  · exact bodyWrites_error_of_inflates hop _
  · exact writes_repeatCount hop _ _ _

theorem writes_bodyLen (sym : Nat) : BodyWrites s (bodyLen sym s) := by
  unfold bodyLen
  split
  · exact bodyWrites_error_of_inflates hop _
  · exact .ok ((State.Writes.refl s).setEngine _)

theorem writes_clSym {w : Nat} {i : Instr} (hdec : decode .clSym w = .ok i) : NextWrites s (exec i s) := by
  obtain ⟨-, henc⟩ := decodeCLSym_eq_ok_iff.1 hdec
  unfold encodeCLSym at henc
  split at henc
  · exact nextWrites_settle_of_inflates hop (writes_nextCodeLength hop ((State.Writes.refl s).setEngine _))
  · exact nextWrites_settle_of_inflates hop (writes_bodyClRepeatPrev hop)
  · exact nextWrites_settle_of_inflates hop (writes_repeatCount hop 3 3 0)
  · exact nextWrites_settle_of_inflates hop (writes_repeatCount hop 11 7 0)
  · cases henc

/-! The elements that write OUT. -/

section
variable (hcap : s.engine.cap = s.outFootprint)
include hcap

theorem writes_bodyStored : BodyWrites s (bodyStored s) := by
  have herr := bodyWrites_error_of_inflates hop
  unfold bodyStored storedBlock
  dsimp only
  split_ifs with hhdr hlen hin hfit
  · exact herr _
  · exact herr _
  · exact herr _
  · exact herr _
  · exact writes_endBlock hop ((State.Writes.setOut hcap.le fun a ha => Mem.read_fill_out (by omega)).setEngine _)

theorem writes_bodyLit (v : Nat) : BodyWrites s (bodyLit v s) := by
  unfold bodyLit
  split
  · exact bodyWrites_error_of_inflates hop _
  · exact .ok ((State.Writes.setOut hcap.le fun a ha => Mem.read_fill_out (by omega)).setEngine _)

theorem writes_bodyDist (dsym : Nat) : BodyWrites s (bodyDist dsym s) := by
  unfold bodyDist
  split
  · exact bodyWrites_error_of_inflates hop _
  dsimp only
  split_ifs with hback hfit
  · exact bodyWrites_error_of_inflates hop _
  · exact bodyWrites_error_of_inflates hop _
  · exact .ok ((State.Writes.setOut hcap.le fun a ha => read_copyLoop_out (by omega)).setEngine _)

variable {w : Nat} {i : Instr}

theorem writes_blockHdr (hdec : decode .blockHdr w = .ok i) : NextWrites s (exec i s) := by
  obtain ⟨-, henc⟩ := decodeBlockHdr_eq_ok_iff.1 hdec
  have hlatch (b : Bool) (t : BitVec 2) {body : Except Err State} (h : BodyWrites (s.latchHeader b t) body) :
      NextWrites s (settle (s.latchHeader b t) body) :=
    (nextWrites_settle_of_inflates (s := s.latchHeader b t) hop h).of_setEngine
  unfold encodeBlockHdr at henc
  split at henc
  · exact hlatch _ 0 (writes_bodyStored hop hcap)
  · exact .next ((State.Writes.refl s).setEngine _)
  · exact hlatch _ 2 (writes_dynamicHeader hop)
  · exact hlatch _ 3 (bodyWrites_error_of_inflates (s := s.latchHeader _ 3) hop _)
  · cases henc

theorem writes_llSym (hdec : decode .llSym w = .ok i) : NextWrites s (exec i s) := by
  obtain ⟨-, henc⟩ := decodeLLSym_eq_ok_iff.1 hdec
  unfold encodeLLSym at henc
  split at henc
  · exact nextWrites_settle_of_inflates hop (writes_bodyLit hop hcap _)
  · exact nextWrites_settle_of_inflates hop (writes_endBlock hop (State.Writes.refl s))
  · next sym =>
    rw [exec_len]
    exact nextWrites_settle_of_inflates hop (writes_bodyLen hop sym)
  · exact nextWrites_settle_of_inflates hop (bodyWrites_error_of_inflates hop _)
  · cases henc

theorem writes_dSym (hdec : decode .dSym w = .ok i) : NextWrites s (exec i s) := by
  obtain ⟨-, henc⟩ := decodeDSym_eq_ok_iff.1 hdec
  unfold encodeDSym at henc
  split at henc
  · exact nextWrites_settle_of_inflates hop (writes_bodyDist hop hcap _)
  · exact nextWrites_settle_of_inflates hop (bodyWrites_error_of_inflates hop _)
  · cases henc

/-- R160 to R179: an element of the Inflate. -/
theorem writes_inflateElement {fmt : Format} (hfmt : fmt ∈ inflateFormats) (hdec : decode fmt w = .ok i) :
    NextWrites s (exec i s) := by
  simp only [inflateFormats, List.mem_cons, List.not_mem_nil, or_false] at hfmt
  obtain rfl | rfl | rfl | rfl := hfmt
  · exact writes_blockHdr hop hcap hdec
  · exact writes_clSym hop hdec
  · exact writes_llSym hop hcap hdec
  · exact writes_dSym hop hcap hdec

end
end

/-! ### The Filter Reconstructor (R203 to R212) -/

theorem read_compact_out {w h bpp a : Nat} {m : Mem} (ha : expectedSize w h bpp ≤ a) :
    Mem.read (compact w h bpp m) a = Mem.read m a := by
  have hsize := compact_le_expectedSize w h bpp
  unfold compact
  split
  · exact Mem.read_fill_out (by omega)
  · rfl

theorem writes_filterRow {s : State} (hop : defilters s.runningOp = true) (hframe : s.frameFits = true)
    (hrow : s.engine.row < s.regs.frameH.toNat) (pred : Predictor) : s.Writes (filterRow pred s) := by
  have hfoot := State.outFootprint_of_frameFits hop hframe
  have hline := row_le_expectedSize (w := s.regs.frameW.toNat) (bpp := s.engine.bpp) hrow
  have hout (a : Nat) (ha : expectedSize s.regs.frameW.toNat s.regs.frameH.toNat s.engine.bpp ≤ a) :
      Mem.read (rowOut pred (byteWidth s.engine.bpp) (lineBytes s.regs.frameW.toNat s.engine.bpp) s.engine.row
        s.mems.out) a = s.rd .out a := read_rowOut_out (.inr (hline.trans ha))
  unfold filterRow
  dsimp only
  split_ifs
  · exact (State.Writes.setOut hfoot.ge hout).setEngine _
  · exact ((State.Writes.setOut hfoot.ge fun a ha => (read_compact_out ha).trans (hout a ha)).setOutSize hop _).finish

/-! ### The Frame Compositor (R222 to R237) -/

/-- A rewrite leaves a byte that its rule gives back. -/
theorem read_fill_kept {lo n a : Nat} {f : Nat → Byte → Byte} {m : Mem} (h : f (a - lo) (Mem.read m a) = Mem.read m a) :
    Mem.read (Mem.fill lo n f m) a = Mem.read m a := by
  rw [Mem.read_fill, h, ite_self]

/-- R122: what a dispose code stands for. -/
theorem decode_dispose_ok {u : DisposeUse} {w : Nat} {i : Instr} (hdec : decode (.dispose u) w = .ok i) :
    (i, w) ∈ disposeCodes u ∨ i = .disposeInvalid u w := by
  change decodeDispose u w = .ok i at hdec
  unfold decodeDispose at hdec
  split at hdec
  · cases hdec
  split at hdec <;> cases hdec <;> simp [disposeCodes]

/-- R122: what a blend code stands for. -/
theorem decode_blend_ok {u : BlendUse} {w : Nat} {i : Instr} (hdec : decode (.blend u) w = .ok i) :
    i = .blendSource u ∨ i = .blendOver u ∨ i = .blendInvalid u w := by
  change decodeBlend u w = .ok i at hdec
  unfold decodeBlend at hdec
  split at hdec
  · cases hdec
  split at hdec <;> cases hdec <;> simp

/-- R225, R226: step 1 rewrites the previous rectangle at most. -/
theorem read_canvasDisposed_kept {s : State} {a : Nat}
    (h : ¬ s.regs.prevRect.has (pixelX s.regs.canvasW.toNat a) (pixelY s.regs.canvasW.toNat a)) (d : Nat) :
    Mem.read (s.canvasDisposed d) a = s.rd .canvas a := by
  unfold State.canvasDisposed
  split
  · exact read_fill_kept (if_neg h)
  · exact read_fill_kept (if_neg h)
  · rfl

/-- R228: step 3 rewrites the current rectangle at most. -/
theorem read_canvasPainted_kept {s : State} {a : Nat}
    (h : ¬ s.regs.frameRect.has (pixelX s.regs.canvasW.toNat a) (pixelY s.regs.canvasW.toNat a)) (isOver : Bool) :
    Mem.read (s.canvasPainted isOver) a = s.rd .canvas a := by
  unfold State.canvasPainted
  exact read_fill_kept (if_neg h)

section
variable {s : State} (hop : s.runningOp = 5)
include hop

theorem writes_disposed (d : Nat) : s.Writes (s.disposed d) :=
  ((State.Writes.refl s).setMem (id := .canvas) fun _ ha =>
    read_canvasDisposed_kept (fun hprev => ha ⟨hop, .inr hprev⟩) d).setEngine _

theorem writes_snapped : s.Writes (s.snapped s.regs.dispose.toNat) := by
  refine ((State.Writes.refl s).setMem (id := .snap) fun a ha => ?_).setEngine _
  by_cases hd : s.regs.dispose.toNat = 2
  · rw [hd]
    exact rd_snap_snapped (Nat.le_of_not_lt fun hlt => ha ⟨hop, BitVec.eq_of_toNat_eq hd, hlt⟩)
  · exact rd_snap_snapped_of_ne s hd a

theorem writes_paintFrame (isOver : Bool) : s.Writes (paintFrame isOver s) :=
  (((State.Writes.refl s).setMem (id := .canvas) fun _ ha =>
    read_canvasPainted_kept (fun hframe => ha ⟨hop, .inl hframe⟩) isOver).recordPrev hop).finish

variable {w : Nat} {i : Instr}

/-- R224 to R226 -/
theorem writes_disposeRestore (hdec : decode (.dispose .restore) w = .ok i) : NextWrites s (exec i s) := by
  obtain hmem | rfl := decode_dispose_ok hdec
  · rw [exec_restore hmem]
    exact .next (writes_disposed hop w)
  · exact .next (writes_goto s _)

/-- R227 -/
theorem writes_disposeSnap (hdec : decode (.dispose .snap) s.regs.dispose.toNat = .ok i) : NextWrites s (exec i s) := by
  obtain hmem | rfl := decode_dispose_ok hdec
  · rw [exec_snap hmem]
    exact .next (writes_snapped hop)
  · exact .next (writes_goto s _)

/-- R228 to R231, R237 -/
theorem writes_blendPaint (hdec : decode (.blend .paint) w = .ok i) : NextWrites s (exec i s) := by
  obtain rfl | rfl | rfl := decode_blend_ok hdec <;> exact .next (writes_paintFrame hop _)

end

/-! ### The checks, and BUILD_TABLE (R195, R200, R222, R253, R254, R256) -/

section
variable {s : State}

theorem writes_defilterChecks (bpp : Nat) : BodyWrites s (defilterChecks bpp s) := by
  unfold defilterChecks
  dsimp only
  split_ifs
  · exact .plain rfl
  · exact .plain rfl
  · exact .ok ((State.Writes.refl s).setEngine _)

theorem writes_decodeFrameChecks (hop : s.runningOp = 4) (bpp : Nat) : BodyWrites s (decodeFrameChecks bpp s) := by
  unfold decodeFrameChecks
  dsimp only
  split_ifs
  · exact .plain rfl
  · exact .plain rfl
  · exact .ok (((State.Writes.refl s).setOutSize (by rw [hop]; rfl) _).setEngine _)

theorem writes_compositeFormatCheck (ct bpp : Nat) : BodyWrites s (compositeFormatCheck ct bpp s) := by
  unfold compositeFormatCheck
  split
  · exact .ok ((State.Writes.refl s).setEngine _)
  · exact .plain rfl

theorem writes_acceptFormat (ct bpp : Nat) : BodyWrites s (acceptFormat ct bpp s) := by
  unfold acceptFormat
  split
  · exact writes_defilterChecks bpp
  · next hop => exact writes_decodeFrameChecks hop bpp
  · exact writes_compositeFormatCheck ct bpp
  · exact .ok ((State.Writes.refl s).setEngine _)

theorem writes_blendChecked : BodyWrites s (blendChecked s) := by
  unfold blendChecked
  split
  · next hgeom =>
    refine .plain ?_
    unfold geometryChecks at hgeom
    dsimp only at hgeom
    split_ifs at hgeom <;> cases hgeom <;> rfl
  · exact .ok (writes_goto s _)

/-- R256: only the selected RAM is built, or left unspecified by an error of its build. -/
theorem writes_buildSelected {id : TableId} (hid : s.mayBuild id) : BodyWrites s (buildSelected id s) := by
  unfold buildSelected
  dsimp only
  split_ifs
  · exact .plain rfl
  · exact .plain rfl
  · exact .plain rfl
  split
  · next hbuild =>
    obtain ⟨e, -, heq⟩ | ⟨T, b, -, heq⟩ := buildInto_cases id [] s.hostLens s <;> cases heq.symm.trans hbuild
    exact .error (by simpa using hid)
  · next hbuild => exact .ok ((State.Writes.refl s).of_buildInto hid hbuild).finish

variable {w : Nat} {i : Instr}

/-- R195, R191, R192 -/
theorem writes_zlib {fmt : Format} (hfmt : fmt = .zlibCmf ∨ fmt = .zlibFlg) (hdec : decode fmt w = .ok i) :
    NextWrites s (exec i s) := by
  obtain rfl | rfl := hfmt
  · obtain ⟨-, henc⟩ := decodeZlibCmf_eq_ok_iff.1 hdec
    unfold encodeZlibCmf at henc
    split at henc
    · exact .next (writes_goto s _)
    · cases henc
  · obtain ⟨-, henc⟩ := decodeZlibFlg_eq_ok_iff.1 hdec
    unfold encodeZlibFlg at henc
    split at henc
    · exact .next ((State.Writes.refl s).setEngine _)
    · cases henc

variable (hhdr : s.engine.phase = .codeLens → inflates s.runningOp = true)
include hhdr

theorem writes_format {ct d : Nat} (hct : ct < 256) (hdec : decode .color (ct + 256 * d) = .ok i) :
    NextWrites s (exec i s) := by
  obtain ⟨bpp, -, hexec⟩ := exec_of_decode_color hct hdec
  rw [hexec]
  exact (writes_acceptFormat ct bpp).settle hhdr

theorem writes_filterType (hop : defilters s.runningOp = true) (hframe : s.frameFits = true)
    (hrow : s.engine.row < s.regs.frameH.toNat) (hdec : decode .filterType w = .ok i) : NextWrites s (exec i s) := by
  obtain ⟨-, henc⟩ := decodeFilterType_eq_ok_iff.1 hdec
  unfold encodeFilterType at henc
  split at henc
  case h_6 => exact (BodyWrites.plain rfl).settle hhdr
  case h_7 => cases henc
  all_goals exact .next (writes_filterRow hop hframe hrow _)

theorem writes_blendMode (hdec : decode .blendMode w = .ok i) : NextWrites s (exec i s) := by
  obtain ⟨-, henc⟩ := decodeBlendMode_eq_ok_iff.1 hdec
  unfold encodeBlendMode at henc
  split at henc
  case h_4 => exact (BodyWrites.plain rfl).settle hhdr
  case h_5 => cases henc
  all_goals exact .next ((State.Writes.refl s).setEngine _)

theorem writes_disposeCheck (hdec : decode (.dispose .check) w = .ok i) : NextWrites s (exec i s) := by
  obtain hmem | rfl := decode_dispose_ok hdec
  · rw [exec_disposeCheck hmem]
    exact .next (writes_goto s _)
  · exact (BodyWrites.plain rfl).settle hhdr

theorem writes_blendCheck (hdec : decode (.blend .check) w = .ok i) : NextWrites s (exec i s) := by
  obtain rfl | rfl | rfl := decode_blend_ok hdec
  · exact writes_blendChecked.settle hhdr
  · exact writes_blendChecked.settle hhdr
  · exact (BodyWrites.plain rfl).settle hhdr

theorem writes_tblSel (hop : s.runningOp = 6) (hdec : decode .tblSel s.regs.tblSel.toNat = .ok i) :
    NextWrites s (exec i s) := by
  have hselected {id : TableId} (h : id.sel = s.regs.tblSel.toNat) : NextWrites s (settle s (buildSelected id s)) :=
    (writes_buildSelected (.inr ⟨hop, h.symm⟩)).settle hhdr
  obtain ⟨-, henc⟩ := decodeTblSel_eq_ok_iff.1 hdec
  unfold encodeTblSel at henc
  split at henc
  · exact hselected (id := .tll) (Option.some.inj henc)
  · exact hselected (id := .td) (Option.some.inj henc)
  · exact hselected (id := .tcl) (Option.some.inj henc)
  · exact (BodyWrites.plain rfl).settle hhdr
  · cases henc

end

/-! ### The step -/

/-- R287: only an inflate command reads a header's code lengths. -/
theorem inflates_of_codeLens {s : State} (hbounds : s.inBounds = true) (hp : s.engine.phase = .codeLens) :
    inflates s.runningOp = true := by
  obtain ⟨hop, -⟩ := State.bounds_at hp hbounds
  simpa [Phase.ops, inflates, or_assoc] using hop

/-- The readings that can fail are those of an inflate command. -/
theorem inflates_of_fetch_error {s : State} {e : Err} (hbounds : s.inBounds = true) (h : fetch s = .error e) :
    inflates s.runningOp = true := by
  cases hp : s.engine.phase
  all_goals
    obtain ⟨hop, -⟩ := State.bounds_at hp hbounds
    simp only [fetch, hp] at h
  case zlibCmf | hdr | codeLens | syms | dist =>
    simp only [Phase.ops, List.contains_iff_mem, List.mem_cons, List.not_mem_nil, or_false] at hop
    simp only [inflates, Bool.or_eq_true, beq_iff_eq]
    omega
  all_goals cases h

theorem rejectError_tables {r : Reject} {e : Err} (h : rejectError r = some e) : e.tables = [] := by
  cases r <;> cases h <;> rfl

/-- An element read where a running command stands changes no more than its row of R260 when it runs. -/
theorem writes_fetched {s t : State} (hbounds : s.inBounds = true) {fmt : Format} {w : Nat} {i : Instr}
    (hfetch : fetch s = .ok (fmt, w, t)) (hdec : decode fmt w = .ok i) : NextWrites s (exec i t) := by
  have hhdr := inflates_of_codeLens hbounds
  by_cases hinf : s.engine.phase ∈ inflatePhases
  · obtain ⟨hfmt, cur, rfl, -⟩ := fetch_inflate hinf hfetch
    rw [State.inBounds_inflate hinf, Bool.and_eq_true, State.inflateFits_iff] at hbounds
    obtain ⟨hop, -, -, -, hcap⟩ := hbounds
    have hop : inflates s.runningOp = true := by simpa [inflates, or_assoc] using hop
    exact (writes_inflateElement (s := s.atCur cur) hop (State.cap_eq_outFootprint hop hcap) hfmt hdec).of_setEngine
  cases hp : s.engine.phase
  all_goals
    obtain ⟨hop, hfits⟩ := State.bounds_at hp hbounds
    simp only [fetch, hp] at hfetch
  case idle => exact absurd hop Bool.false_ne_true
  case hdr | codeLens | syms | dist => exact absurd (by rw [hp]; decide) hinf
  case zlibCmf =>
    obtain ⟨rfl, -, rfl, -⟩ := fetchCmf_ok hfetch
    exact writes_zlib (.inl rfl) hdec
  case format =>
    cases hfetch
    exact writes_format hhdr s.regs.colorType.isLt hdec
  case zlibFlg =>
    cases hfetch
    exact writes_zlib (.inr rfl) hdec
  case filt =>
    cases hfetch
    obtain ⟨hframe, hrow⟩ := Bool.and_eq_true_iff.mp hfits
    exact writes_filterType hhdr (by simpa [Phase.ops, defilters] using hop) hframe (of_decide_eq_true hrow) hdec
  case blendMode =>
    cases hfetch
    exact writes_blendMode hhdr hdec
  case disposeCheck =>
    cases hfetch
    exact writes_disposeCheck hhdr hdec
  case blendCheck =>
    cases hfetch
    exact writes_blendCheck hhdr hdec
  case disposeRestore =>
    cases hfetch
    exact writes_disposeRestore (by simpa [Phase.ops] using hop) hdec
  case disposeSnap =>
    cases hfetch
    exact writes_disposeSnap (by simpa [Phase.ops] using hop) hdec
  case paint =>
    cases hfetch
    exact writes_blendPaint (by simpa [Phase.ops] using hop) hdec
  case tblSel =>
    cases hfetch
    exact writes_tblSel hhdr (by simpa [Phase.ops] using hop) hdec

theorem writes_engineStep {s : State} (hbounds : s.inBounds = true) : NextWrites s (engineStep s) := by
  have hhdr := inflates_of_codeLens hbounds
  rw [engineStep, if_pos hbounds]
  split
  · next herr => exact .raise hhdr fun _ _ => .inl (inflates_of_fetch_error hbounds herr)
  next hfetch =>
  split
  · next hdec => exact writes_fetched hbounds hfetch hdec
  split
  · next hreject =>
    obtain ⟨-, cur, rfl⟩ := fetch_ok hfetch
    exact NextWrites.of_setEngine (.raise hhdr (by simp [rejectError_tables hreject]))
  · exact fun _ heq => nomatch heq

/-- R260: COMPOSITE and BUILD_TABLE write no byte of OUT. -/
theorem State.outFootprint_eq_zero {s : State} (hop : s.runningOp = 5 ∨ s.runningOp = 6) : s.outFootprint = 0 := by
  obtain hop | hop := hop <;> rw [State.outFootprint, hop] <;> rfl

/-- Settles O19: each element, where it is read, changes no more than the row of R260, and an error leaves no more
unspecified. -/
theorem engineWritesOnlyItsFootprint : Obligations.EngineWritesOnlyItsFootprint := by
  intro s t hbounds hstep
  have h := writes_engineStep hbounds t hstep
  refine ⟨fun id hid a => h.mems id a ?_, fun hop id hid a => h.mems id a ?_, fun x y c hx hc hframe hprev => ?_,
    fun a ha => h.mems .snap a ?_, fun hop a => h.mems .out a ?_, fun a ha => h.mems .out a (Nat.not_lt.2 ha),
    fun hop => Tables.ext_get fun id => h.tables id ?_, fun hop id hsel => h.tables id ?_, h.regs, h.site, h.positions,
    h.outSize, h.prev, h.host⟩
  · simp only [List.mem_cons, List.not_mem_nil, or_false] at hid
    obtain rfl | rfl | rfl := hid <;> exact not_false
  · simp only [List.mem_cons, List.not_mem_nil, or_false] at hid
    obtain rfl | rfl := hid <;> exact fun hmay => hop hmay.1
  · have hw : t.regs.canvasW = s.regs.canvasW := by rw [h.regs]
    rw [cpix, cpix, hw]
    refine h.mems .canvas (pixelByte s.regs.canvasW.toNat x y c) ?_
    simp [State.mayWrite, hx, hc, frameRect_has, prevRect_has, hframe, hprev]
  · rintro ⟨-, hdispose, hlt⟩
    exact ha.elim (· hdispose) (Nat.not_le.2 hlt)
  · simp [State.mayWrite, State.outFootprint_eq_zero hop]
  · rintro (hinf | ⟨hop6, -⟩)
    · obtain hop | hop := hop <;> rw [hop] at hinf <;> cases hinf
    · omega
  · rintro (hinf | ⟨-, hsel'⟩)
    · rw [hop] at hinf
      cases hinf
    · exact hsel (by cases id <;> exact hsel')

end Sys2Proof.Machine
end

section
/-! PROOFS. The command words (R250 to R263): how a command starts, what its prechecks raise, and the commands that end at
once; the engine's step as reading and running; and BUILD_TABLE's one element (R256). -/

namespace Sys2Proof.Machine

open Sys2Proof.Claims

/-! ### Starting a command (R250, R261, R321) -/

section
variable {s : State} {op : BitVec 4} {body : State → Except Err State}

theorem startCommand_busy (hbusy : s.status.busy = true) : startCommand op body s = .next s := if_pos hbusy

theorem startCommand_failed (hbusy : s.status.busy = false) (herror : s.status.error = true) :
    startCommand op body s = .next (s.setRegs { s.regs with op := op }) := by
  rw [startCommand, if_neg (by simp [hbusy])]
  exact if_pos herror

theorem startCommand_idle (hidle : s.idle) : startCommand op body s = settle (s.started op) (body (s.started op)) := by
  obtain ⟨hbusy, herror⟩ := hidle
  rw [startCommand, if_neg (by simp [hbusy])]
  exact if_neg (by simp [herror])

theorem startCommand_ok {t : State} (hidle : s.idle) (hbody : body (s.started op) = .ok t) :
    startCommand op body s = .next t := by
  rw [startCommand_idle hidle, hbody, settle_ok]

theorem startCommand_error {e : Err} (hidle : s.idle) (hbody : body (s.started op) = .error e) :
    ∃ t, startCommand op body s = .next t ∧ Raised e (s.started op) t :=
  ⟨raise e (s.started op), by rw [startCommand_idle hidle, hbody, settle_error], raise_spec e _⟩

end

/-- What a command does before its first element (R251 to R258). -/
def commandBody : Instr → State → Except Err State
  | .inflateZlib => bodyInflateZlib
  | .inflateRaw => bodyInflateRaw
  | .decodeFrame => bodyDecodeFrame
  | .defilter | .composite => fun s => .ok (s.goto .format)
  | .buildTable => fun s => .ok (s.goto .tblSel)
  | .creset => fun s => .ok (clearPrev s).finish
  | _ => fun _ => .error (param 0x0A00)

/-- R100, R250: every command word but NOP's starts a command. -/
theorem exec_command {i : Instr} {op : Nat} (hmem : (i, op) ∈ commandWords) :
    (i = .nop ∧ op = 0) ∨ exec i = startCommand (BitVec.ofNat 4 op) (commandBody i) := by
  rw [commandWords, List.mem_append] at hmem
  obtain hmem | hmem := hmem
  · simp only [List.mem_cons, Prod.mk.injEq, List.not_mem_nil, or_false] at hmem
    obtain h | ⟨rfl, rfl⟩ | ⟨rfl, rfl⟩ | ⟨rfl, rfl⟩ | ⟨rfl, rfl⟩ | ⟨rfl, rfl⟩ | ⟨rfl, rfl⟩ | ⟨rfl, rfl⟩ := hmem
    · exact .inl h
    all_goals exact .inr rfl
  · obtain ⟨k, -, heq⟩ := List.mem_map.1 hmem
    cases heq
    exact .inr rfl

/-- Settles O33, by whether a command runs. -/
theorem nopOnlyStoresItsOp : Obligations.NopOnlyStoresItsOp := fun s =>
  ⟨fun hidle => if_neg (by simp [hidle]), fun hbusy => if_pos hbusy⟩

/-- Settles O36: NOP stores its OP itself, every other command word by its start. -/
theorem commandWordsAreIgnoredInErrorAndBusy : Obligations.CommandWordsAreIgnoredInErrorAndBusy := by
  intro s i op hmem
  obtain ⟨rfl, rfl⟩ | hexec := exec_command hmem
  · obtain ⟨hidle, hbusy⟩ := nopOnlyStoresItsOp s
    exact ⟨fun h _ => hidle h, hbusy⟩
  · rw [hexec]
    exact ⟨startCommand_failed, startCommand_busy⟩

/-! ### The prechecks (R263, R251, R252, R254) -/

section
variable {s : State}

theorem checkIn_ok (h : s.regs.inBase.toNat + s.regs.inLen.toNat ≤ s.params.inCap) : checkIn s = .ok () :=
  if_neg (Nat.not_lt.2 h)

theorem checkIn_error (h : s.params.inCap < s.regs.inBase.toNat + s.regs.inLen.toNat) :
    checkIn s = .error (param 0x0A01) := if_pos h

theorem checkInflate_of_checkIn (h : checkIn s = .ok ()) : checkInflate s =
    if s.params.outCap < s.regs.outSize.toNat then .error (nomem 0x0A02) else .ok () := by
  rw [checkInflate, h]

end

/-- Settles O34, command by command. -/
theorem commandsStart : Obligations.CommandsStart := by
  intro s hidle
  refine ⟨fun hin => ⟨fun hout => ⟨startCommand_ok hidle ?_, exec_inflateRaw hidle hin hout⟩, startCommand_ok hidle ?_⟩,
    startCommand_ok (body := commandBody .defilter) hidle rfl, startCommand_ok (body := commandBody .composite) hidle rfl,
    startCommand_ok (body := commandBody .buildTable) hidle rfl⟩
  · have hcheck : checkInflate (s.started 1) = .ok () :=
      (checkInflate_of_checkIn (checkIn_ok hin)).trans (if_neg (Nat.not_lt.2 hout))
    rw [bodyInflateZlib, hcheck]
    rfl
  · have hcheck : checkIn (s.started 4) = .ok () := checkIn_ok hin
    rw [bodyDecodeFrame, hcheck]
    rfl

/-- The commands that read a payload (R251, R252, R254). -/
def inflateCommands : List (Instr × Nat) := [(.inflateZlib, 1), (.inflateRaw, 2), (.decodeFrame, 4)]

section
variable {s : State} {e : Err} {i : Instr} {op : Nat} (hmem : (i, op) ∈ inflateCommands)
include hmem

theorem exec_inflateCommand : exec i = startCommand (BitVec.ofNat 4 op) (commandBody i) := by
  simp only [inflateCommands, List.mem_cons, Prod.mk.injEq, List.not_mem_nil, or_false] at hmem
  obtain ⟨rfl, rfl⟩ | ⟨rfl, rfl⟩ | ⟨rfl, rfl⟩ := hmem <;> rfl

theorem commandBody_of_checkIn_error (h : checkIn s = .error e) : commandBody i s = .error e := by
  simp only [inflateCommands, List.mem_cons, Prod.mk.injEq, List.not_mem_nil, or_false] at hmem
  obtain ⟨rfl, rfl⟩ | ⟨rfl, rfl⟩ | ⟨rfl, rfl⟩ := hmem <;>
    simp only [commandBody, bodyInflateZlib, bodyInflateRaw, bodyDecodeFrame, checkInflate, h]

theorem commandBody_of_checkInflate_error (hop : op ≠ 4) (h : checkInflate s = .error e) : commandBody i s = .error e := by
  simp only [inflateCommands, List.mem_cons, Prod.mk.injEq, List.not_mem_nil, or_false] at hmem
  obtain ⟨rfl, rfl⟩ | ⟨rfl, rfl⟩ | ⟨rfl, rfl⟩ := hmem
  · simp only [commandBody, bodyInflateZlib, h]
  · simp only [commandBody, bodyInflateRaw, h]
  · exact absurd rfl hop

end

/-- Settles O35: an error of the prechecks is the command's. -/
theorem inflateCommandsCheckTheirBuffers : Obligations.InflateCommandsCheckTheirBuffers := by
  intro s i op hmem hidle
  rw [exec_inflateCommand hmem]
  refine ⟨fun hin => startCommand_error hidle (commandBody_of_checkIn_error hmem (checkIn_error hin)),
    fun hin hop hout => startCommand_error hidle (commandBody_of_checkInflate_error hmem hop ?_)⟩
  exact (checkInflate_of_checkIn (checkIn_ok hin)).trans (if_pos hout)

/-! ### The commands that end at once (R257, R258) -/

/-- Settles O37: the record is cleared and the command ends, both inside its start. -/
theorem cresetClearsThePreviousFrame : Obligations.CresetClearsThePreviousFrame := fun _ hidle =>
  startCommand_ok (body := commandBody .creset) hidle rfl

/-- R287: an error of a command that writes neither OUT nor its registers, and builds no table RAM, leaves nothing
unspecified. -/
theorem Raised.frame {e : Err} {s t : State} (h : Raised e s t) (hinf : inflates s.runningOp = false)
    (hdef : defilters s.runningOp = false) (htables : s.unspecifiedTables e = []) :
    t.regs = { s.regs with errSite := e.site } ∧ (∀ id a, t.rd id a = s.rd id a) ∧ t.tables = s.tables := by
  obtain ⟨hpos, hbit⟩ := h.positions hinf
  have hfoot : s.outFootprint = 0 := by simp [State.outFootprint, hinf, hdef]
  refine ⟨?_, fun id a => ?_, Tables.ext_get fun id => h.tables id (by simp [htables])⟩
  · rw [h.regs, h.site, hpos, hbit, h.outSize hdef]
  · by_cases hid : id = .out
    · subst hid
      exact h.out a (by omega)
    · exact h.mems id hid a

/-- Settles O38: a reserved command starts, raises, and has no row in R260. -/
theorem reservedCommandsRaise : Obligations.ReservedCommandsRaise := by
  intro s op hidle hphase hlo hhi
  obtain ⟨t, hexec, h⟩ := startCommand_error (op := BitVec.ofNat 4 op) (body := commandBody (.cmdReserved op)) hidle rfl
  have hop : (s.started (BitVec.ofNat 4 op)).runningOp = op := Nat.mod_eq_of_lt (by omega)
  obtain ⟨hregs, hmems, htables⟩ := h.frame (by rw [hop, inflates]; simp; omega) (by rw [hop, defilters]; simp; omega)
    (by simp [State.unspecifiedTables, State.started, hphase, param])
  obtain ⟨hidle', hbus, hrdata, hparams⟩ := h.rest
  exact ⟨t, hexec, h.status, hregs, hmems, htables, hidle', hbus, hrdata, hparams⟩

/-! ### The engine's step (R160, R191, R192, R201, R250) -/

/-- Settles O22, by what the next word is. -/
theorem stepRunsTheDecodedElement : Obligations.StepRunsTheDecodedElement := by
  intro s hbusy hbounds hbus
  rw [step_busy_nil hbusy hbus]
  refine ⟨fun fmt w t i hfetch hdec => engineStep_of_fetch hbounds hfetch hdec,
    fun fmt w t r e hfetch hdec hreject => ?_, fun e hfetch => ?_⟩
  · rw [engineStep, if_pos hbounds, hfetch]
    dsimp only
    rw [hdec]
    dsimp only
    rw [hreject]
  · rw [engineStep, if_pos hbounds, hfetch]

/-! ### BUILD_TABLE (R145, R256) -/

/-- R145: a build writes its entries and keeps those above. -/
theorem TableRam.getD_load (r : TableRam) (n : Nat) (T : List (BitVec 10)) (k : Nat) :
    (r.load n T).entries.getD k 0 = if k < T.length then T.getD k 0 else r.entries.getD k 0 := by
  rw [TableRam.load]
  split_ifs with hk
  · exact List.getD_append _ _ _ _ hk
  · rw [List.getD_append_right _ _ _ _ (Nat.le_of_not_lt hk)]
    simp only [List.getD_eq_getElem?_getD, List.getElem?_drop]
    rw [Nat.add_sub_cancel' (Nat.le_of_not_lt hk)]

theorem keeps_built (s : State) (id : TableId) (n : Nat) (T : List (BitVec 10)) (w : Build) :
    Keeps [] [id] s (s.built id n T w) where
  mems _ _ _ := rfl
  tables id' hid := by
    have hne : id' ≠ id := by simpa using hid
    simp [State.built, Tables.get_set, hne]
  host := ⟨rfl, rfl, rfl, rfl⟩

theorem exec_tableSelect {i : Instr} {id : TableId} {nmax : Nat}
    (hmem : (i, id, nmax) ∈ [(Instr.tblTll, TableId.tll, 288), (.tblTd, .td, 32), (.tblTcl, .tcl, 19)]) :
    id.nmax = nmax ∧ ∀ s, exec i s = settle s (buildSelected id s) := by
  simp only [List.mem_cons, Prod.mk.injEq, List.not_mem_nil, or_false] at hmem
  obtain ⟨rfl, rfl, rfl⟩ | ⟨rfl, rfl, rfl⟩ | ⟨rfl, rfl, rfl⟩ := hmem <;> exact ⟨rfl, fun _ => rfl⟩

theorem length_hostLens (s : State) : s.hostLens.length = s.regs.tblN.toNat := by simp [State.hostLens]

/-! With the three checks passed, the build decides (R256). -/

section
variable {id : TableId} {s : State} (hn : 1 ≤ s.regs.tblN.toNat ∧ s.regs.tblN.toNat ≤ id.nmax)
  (hin : s.regs.inBase.toNat + s.regs.tblN.toNat ≤ s.params.inCap) (hlens : ∀ l ∈ s.hostLens, l ≤ 15)
include hn hin hlens

theorem buildSelected_error {e : Err} (h : buildTable s.hostLens = .error e) :
    buildSelected id s = .error { e with tables := [id] } := by
  rw [buildSelected, if_neg (by omega), if_neg (by omega), if_neg (by simpa using hlens), buildInto_error h]

theorem buildSelected_ok {T : List (BitVec 10)} {w : Build} (h : buildTable s.hostLens = .ok (T, w)) :
    buildSelected id s = .ok (s.built id s.regs.tblN.toNat T w).finish := by
  rw [buildSelected, if_neg (by omega), if_neg (by omega), if_neg (by simpa using hlens), buildInto_built h,
    length_hostLens]

end

/-- Settles O60: the checks in their order, and then the build. -/
theorem buildTableBuildsTheSelectedRam : Obligations.BuildTableBuildsTheSelectedRam := by
  intro s i id nmax hmem
  obtain ⟨rfl, hexec⟩ := exec_tableSelect hmem
  refine ⟨fun hn => raises_of_error (hexec s) (if_pos (by omega)), fun hn hin => ?_, fun hn hin hlong => ?_,
    fun hn hin hlens e herr => raises_of_error (hexec s) (buildSelected_error hn hin hlens herr),
    fun hn hin hlens T w hbuild => ?_⟩
  · refine raises_of_error (hexec s) ?_
    rw [buildSelected, if_neg (by omega), if_pos (by omega)]
  · have hany : s.hostLens.any (fun l => decide (15 < l)) = true := by
      obtain ⟨l, hmem, hlt⟩ := hlong
      exact List.any_eq_true.2 ⟨l, hmem, decide_eq_true hlt⟩
    refine raises_of_error (hexec s) ?_
    rw [buildSelected, if_neg (by omega), if_neg (by omega), if_pos hany]
  · have hlength : T.length = 2 * s.regs.tblN.toNat := length_hostLens s ▸ buildTable_length hbuild
    have hram : (s.built id s.regs.tblN.toNat T w).tables.get id = (s.tables.get id).load s.regs.tblN.toNat T :=
      Tables.get_set_same ..
    refine ⟨hlength, (s.built id s.regs.tblN.toNat T w).finish, ?_, fun k => ?_, congrArg TableRam.n hram, rfl, rfl, rfl, ?_⟩
    · rw [hexec, buildSelected_ok hn hin hlens hbuild, settle_ok]
    · rw [State.finish_tables, hram, TableRam.getD_load, hlength]
    · have hkeeps := keeps_built s id s.regs.tblN.toNat T w
      exact ⟨hkeeps.mems, hkeeps.tables, hkeeps.host⟩

end Sys2Proof.Machine
end

section
/-! PROOFS. The ERROR state is absorbing (R284, R291): nothing runs in it, and of the host's accesses only a soft reset
touches STATUS and ERR_SITE. -/

namespace Sys2Proof.Machine

open Sys2Proof.Claims

/-! ### The command words as the statements list them (R100) -/

/-- R100: what a command word decodes to is listed with its OP, the word's low four bits. -/
theorem mem_commandWords_of_decode {w : Nat} {i : Instr} (hdec : decode .cmd w = .ok i) : (i, w % 16) ∈ commandWords := by
  change decodeCmd w = .ok i at hdec
  rw [decodeCmd_mod (decode_lt (fmt := .cmd) hdec)] at hdec
  have hlt := Nat.mod_lt w (show 0 < 16 by decide)
  generalize w % 16 = op at hdec hlt
  interval_cases op <;> cases hdec <;> decide

/-! ### What the host's accesses do to STATUS and ERR_SITE -/

theorem offset_of_regAt {off : Nat} {r : Reg} (h : regAt off = some r) : r.offset = off :=
  eq_of_beq (List.find?_some (p := fun r : Reg => r.offset == off) h)

/-- R284: the error set in `s` stands in `t` with its code and its site. -/
abbrev State.ErrorKept (s t : State) : Prop := t.status = s.status ∧ t.regs.errSite = s.regs.errSite

/-- R30, R75: the access is a soft reset, the 32-bit write to CTRL with bit 0 = 1. -/
def BusOp.IsSoftReset (p : Params) (op : BusOp) : Prop :=
  ∃ addr v, op = .write .b4 addr v ∧ v.getLsbD 0 = true ∧ locate p (busOffset p addr) = some (.reg Reg.ctrl.offset)

/-- R75: a write while no command runs reaches a register as a 32-bit access at that register's offset; any other touches
neither a register nor STATUS. -/
theorem idleWrite_cases (w : Width) (addr v : Word) (s : State) :
    (∃ r, w = .b4 ∧ locate s.params (busOffset s.params addr) = some (.reg r.offset) ∧
      idleWrite w addr v s = writeReg r v s) ∨
    ∀ t, idleWrite w addr v s = .next t → s.ErrorKept t := by
  unfold idleWrite
  split
  · exact .inr fun _ h => nomatch h
  · next off hloc =>
    split
    · next hacc =>
      split
      · next r hreg =>
        rw [← offset_of_regAt hreg] at hloc
        exact .inl ⟨r, (wordAccess_iff.1 hacc).1, hloc, rfl⟩
      · exact .inr fun _ h => by cases h; exact ⟨rfl, rfl⟩
    · exact .inr fun _ h => nomatch h
  all_goals
    refine .inr fun t h => ?_
    split at h
    · cases h
      exact ⟨rfl, rfl⟩
    · cases h

section
variable {s t : State} (hidle : s.status.busy = false) (herror : s.status.error = true)
include hidle herror

/-- R261: a command word only stores its OP. -/
theorem errorKept_writeCmd {v : Word} (h : writeCmd v s = .next t) : s.ErrorKept t := by
  obtain ⟨i, hdec⟩ := decode_cmd_ok v.isLt
  obtain ⟨hexec, -⟩ := commandWordsAreIgnoredInErrorAndBusy s i _ (mem_commandWords_of_decode hdec)
  rw [writeCmd, hdec] at h
  cases (hexec hidle herror).symm.trans h
  exact ⟨rfl, rfl⟩

/-- R22, R284: ERR_SITE is read-only, so a register write that is no soft reset leaves it. -/
theorem errorKept_writeReg {r : Reg} {v : Word} (hsrst : ¬ (r = .ctrl ∧ v.getLsbD 0 = true))
    (h : writeReg r v s = .next t) : s.ErrorKept t := by
  by_cases hcmd : r = .cmd
  · subst hcmd
    exact errorKept_writeCmd hidle herror h
  · cases (writeReg_idle hidle hcmd hsrst).symm.trans h
    exact ⟨rfl, s.regs.store_errSite v r⟩

/-- R284, R291: an access in the ERROR state keeps the error, or is a soft reset. -/
theorem hostAccess_failed {op : BusOp} (h : hostAccess op s = .next t) :
    s.ErrorKept t ∨ (t = softReset s ∧ op.IsSoftReset s.params) := by
  cases op with
  | read w addr =>
    obtain ⟨r, heq⟩ | ⟨x, heq⟩ := read_cases w addr s <;> cases heq.symm.trans h
    exact .inl ⟨rfl, rfl⟩
  | wait =>
    cases h
    exact .inl ⟨rfl, rfl⟩
  | write w addr v =>
    rw [hostAccess_write_idle hidle] at h
    obtain ⟨r, rfl, hloc, heq⟩ | hkept := idleWrite_cases w addr v s
    · rw [heq] at h
      by_cases hsrst : r = .ctrl ∧ v.getLsbD 0 = true
      · obtain ⟨rfl, hbit⟩ := hsrst
        have hreset : writeCtrl v s = softReset s := if_pos hbit
        cases h
        exact .inr ⟨hreset, addr, v, rfl, hbit, hloc⟩
      · exact .inl (errorKept_writeReg hidle herror hsrst h)
    · exact .inl (hkept t h)

end

/-- Settles O21: with an error set no command runs, so a step holds the state or performs the host's oldest access. -/
theorem theErrorStateIsAbsorbing : Obligations.TheErrorStateIsAbsorbing := by
  intro s t hinv herror hstep
  obtain ⟨-, hexclusive, -⟩ := hinv.status
  have hidle : s.status.busy = false := Bool.eq_false_iff.2 fun hbusy => hexclusive ⟨hbusy, herror⟩
  cases hbus : s.bus with
  | nil =>
    cases (step_idle_nil hidle hbus).symm.trans hstep
    exact .inl ⟨rfl, rfl⟩
  | cons r rest =>
    have haccess := (step_idle_cons hidle hbus).symm.trans hstep
    obtain hkept | ⟨rfl, addr, v, hop, hbit, hloc⟩ := hostAccess_failed (s := s.setBus rest) hidle herror haccess
    · exact .inl hkept
    · obtain ⟨hregs, hstatus, -⟩ := softReset_regs (s.setBus rest)
      obtain ⟨n, op⟩ := r
      subst hop
      exact .inr ⟨hstatus, hregs, n, addr, v, rest, rfl, hbit, hloc⟩

end Sys2Proof.Machine
end

section
/-! PROOFS. The host's accesses while a command runs (R320, R321), and the soft reset at any time (R311). -/

namespace Sys2Proof.Machine

open Sys2Proof.Claims

/-! ### Accesses while a command runs (R320, R321) -/

/-- R320: a read of a register other than ID, STATUS and ERR_SITE, or of another width or place, is refused. -/
theorem busyRead_refused {w : Width} {addr : Word} {s : State}
    (h : ¬ (w = .b4 ∧ busOffset s.params addr ∈ [0x000, 0x008, 0x00C])) : busyRead w addr s = .refused .busyAccess := by
  unfold busyRead
  split
  · next hw =>
    split
    case h_4 => rfl
    all_goals
      next hreg => exact absurd ⟨hw, by rw [← offset_of_regAt hreg]; decide⟩ h
  · rfl

/-- R320: a write to a register other than CMD and CTRL, or of another width or place, is refused. -/
theorem busyWrite_refused {w : Width} {addr v : Word} {s : State}
    (h : ¬ (w = .b4 ∧ busOffset s.params addr ∈ [0x004, 0x010])) : busyWrite w addr v s = .refused .busyAccess := by
  unfold busyWrite
  split
  · next hw =>
    split
    case h_3 => rfl
    all_goals
      next hreg => exact absurd ⟨hw, by rw [← offset_of_regAt hreg]; decide⟩ h
  · rfl

section
variable {s : State} (hbusy : s.status.busy = true)
include hbusy

theorem hostAccess_read_busy (w : Width) (addr : Word) : hostAccess (.read w addr) s = busyRead w addr s := if_pos hbusy

theorem hostAccess_write_busy (w : Width) (addr v : Word) : hostAccess (.write w addr v) s = busyWrite w addr v s :=
  if_pos hbusy

theorem hostAccess_rd32_busy {r : Reg} (hr : r ∈ [Reg.id, .status, .errSite]) :
    hostAccess (rd32 s.params r) s = .next (s.setRdata (s.readReg r)) := by
  rw [rd32, hostAccess_read_busy hbusy, busyRead, if_pos rfl, busOffset_offset, regAt_offset]
  simp only [List.mem_cons, List.not_mem_nil, or_false] at hr
  obtain rfl | rfl | rfl := hr <;> rfl

theorem hostAccess_ctrl_busy (v : Word) : hostAccess (wr32 s.params .ctrl v) s = .next (writeCtrl v s) := by
  rw [wr32, hostAccess_write_busy hbusy, busyWrite, if_pos rfl, busOffset_offset, regAt_offset]

/-- R321: a command word written while a command runs is ignored. -/
theorem hostAccess_cmd_busy (v : Word) : hostAccess (wr32 s.params .cmd v) s = .next s := by
  obtain ⟨i, hdec⟩ := decode_cmd_ok v.isLt
  obtain ⟨-, hexec⟩ := commandWordsAreIgnoredInErrorAndBusy s i _ (mem_commandWords_of_decode hdec)
  rw [wr32, hostAccess_write_busy hbusy, busyWrite, if_pos rfl, busOffset_offset, regAt_offset]
  dsimp only
  rw [writeCmd, hdec]
  exact hexec hbusy

end

theorem Status.getLsbD_word_busy (st : Status) : st.word.getLsbD 0 = st.busy := by
  obtain ⟨hbusy, -⟩ := fieldIs_status st
  change st.word.toNat.testBit 0 = st.busy
  rw [FieldIs, Nat.pow_zero, Nat.div_one, Nat.pow_one] at hbusy
  rw [Nat.testBit_zero, hbusy]
  cases st.busy <;> rfl

/-- R311, R321: a write to CTRL with bit 0 = 1 is a soft reset at any time. -/
theorem hostAccess_srst {v : Word} (hv : v.getLsbD 0 = true) (s : State) :
    hostAccess (wr32 s.params .ctrl v) s = .next (softReset s) := by
  have hreset : writeCtrl v s = softReset s := if_pos hv
  cases hbusy : s.status.busy with
  | false => rw [hostAccess_wr32_idle hbusy, writeReg, hreset]
  | true => rw [hostAccess_ctrl_busy hbusy, hreset]

/-- Settles O30: a running command leaves the host the 32-bit reads of three registers and the writes of two, of which only
the soft reset has an effect. -/
theorem busyAccessesAreRestricted : Obligations.BusyAccessesAreRestricted := by
  intro s hbusy
  refine ⟨fun r hr => hostAccess_rd32_busy hbusy hr, s.status.getLsbD_word_busy.trans hbusy, rfl,
    hostAccess_cmd_busy hbusy, fun v hv => ?_, fun v hv => ?_, fun w a h => ?_, fun w a v h => ?_⟩
  · have hignored : writeCtrl v s = s := (if_neg (by rw [hv]; decide)).trans (if_pos hbusy)
    rw [hostAccess_ctrl_busy hbusy, hignored]
  · exact hostAccess_srst hv s
  · exact (hostAccess_read_busy hbusy w a).trans (busyRead_refused h)
  · exact (hostAccess_write_busy hbusy w a v).trans (busyWrite_refused h)

/-! ### What an abandoned command leaves unspecified (R260, R311) -/

/-- R260, R311: the bytes an abandoned command may have written. Of CANVAS only the pixels count, and of SNAP the frame's
bytes whether or not a snapshot is taken. -/
def State.mayDisturb (s : State) : MemId → Nat → Prop
  | .canvas, a => s.mayWrite .canvas a ∧ a < 4 * s.regs.canvasW.toNat * s.regs.canvasH.toNat
  | .snap, a => s.runningOp = 5 ∧ a < 4 * s.regs.frameW.toNat * s.regs.frameH.toNat
  | id, a => s.mayWrite id a

/-- From `s` to `t` nothing changes but the registers and what the command running in `s` may have written when abandoned. -/
structure State.Disturbed (s t : State) : Prop where
  mems : ∀ id a, ¬ s.mayDisturb id a → t.rd id a = s.rd id a
  tables : ∀ id, ¬ s.mayBuild id → t.tables.get id = s.tables.get id
  host : t.bus = s.bus ∧ t.rdata = s.rdata ∧ t.params = s.params

namespace State.Disturbed

variable {s t : State}

theorem refl (s : State) : s.Disturbed s := ⟨fun _ _ _ => rfl, fun _ _ => rfl, rfl, rfl, rfl⟩

variable (h : s.Disturbed t)
include h

theorem freeMem {id : MemId} {n : Nat} {p : Nat → Bool} (hp : ∀ a < n, p a = true → s.mayDisturb id a) :
    s.Disturbed (t.freeMem id n p) :=
  { h with
    mems := fun id' a hkept => by
      refine (State.rd_freeMem ?_).trans (h.mems id' a hkept)
      by_contra hfreed
      simp only [not_or, not_not, Nat.not_le, Bool.not_eq_false] at hfreed
      obtain ⟨rfl, hlt, hpick⟩ := hfreed
      exact hkept (hp a hlt hpick) }

theorem freeTable {id : TableId} (hid : s.mayBuild id) : s.Disturbed (t.freeTable id) :=
  { h with
    tables := fun id' hkept => (t.freeTable_get id id' fun heq => hkept (heq ▸ hid)).trans (h.tables id' hkept) }

theorem freeTables {ids : List TableId} (hids : ∀ id ∈ ids, s.mayBuild id) : s.Disturbed (t.freeTables ids) := by
  induction ids generalizing t with
  | nil => exact h
  | cons id ids ih =>
    obtain ⟨hid, hids⟩ := List.forall_mem_cons.1 hids
    exact ih (h.freeTable hid) hids

end State.Disturbed

/-- R311: abandoning a command disturbs no more than the ranges of R260. -/
theorem State.disturbed_abandon (s : State) : s.Disturbed s.abandon := by
  have hout : s.Disturbed s.freeOut := (State.Disturbed.refl s).freeMem fun _ ha _ => ha
  have htables : s.Disturbed (if inflates s.runningOp then s.freeOut.freeTables [.tcl, .tll, .td] else s.freeOut) := by
    split
    · next hinf => exact hout.freeTables fun _ _ => .inl hinf
    · exact hout
  unfold State.abandon
  dsimp only
  split
  · next hop =>
    refine (htables.freeMem (id := .canvas) fun a ha hrects => ?_).freeMem (id := .snap) fun a ha _ =>
      ⟨hop, (lt_min_iff.1 ha).1⟩
    exact ⟨⟨hop, Bool.or_eq_true_iff.1 hrects⟩, (lt_min_iff.1 ha).1⟩
  split
  · next hop =>
    split
    · next hsel => exact htables.freeTable (.inr ⟨hop, hsel⟩)
    · next hsel => exact htables.freeTable (.inr ⟨hop, hsel⟩)
    · next hsel => exact htables.freeTable (.inr ⟨hop, hsel⟩)
    · exact htables
  · exact htables

/-- R311: a soft reset disturbs no more than the command it abandons, if any. -/
theorem disturbed_softReset (s : State) : s.Disturbed (softReset s) := by
  have hkept : s.Disturbed (if s.status.busy then s.abandon else s) := by
    split
    · exact s.disturbed_abandon
    · exact .refl s
  exact { hkept with }

theorem not_mayDisturb_pixel {s : State} {x y c : Nat} (h : onCanvas s x y c) (hframe : inFrame s x y = false)
    (hprev : inPrev s x y = false) : ¬ s.mayDisturb .canvas (pixelByte s.regs.canvasW.toNat x y c) := by
  obtain ⟨hx, -, hc⟩ := h
  simp [State.mayDisturb, State.mayWrite, hx, hc, frameRect_has, prevRect_has, hframe, hprev]

theorem not_mayBuild_of_defilter_or_composite {s : State} (hop : s.runningOp = 3 ∨ s.runningOp = 5) (id : TableId) :
    ¬ s.mayBuild id := by
  obtain hop | hop := hop <;> simp [State.mayBuild, inflates, hop]

/-- Settles O32: the registers take their reset values, and the stores change only as abandoning the running command
disturbs them. -/
theorem softResetRestoresTheRegisters : Obligations.SoftResetRestoresTheRegisters := by
  intro s v hv
  obtain ⟨hregs, hstatus, hengine⟩ := softReset_regs s
  have h := disturbed_softReset s
  obtain ⟨hbus, hrdata, hparams⟩ := h.host
  refine ⟨softReset s, hostAccess_srst hv s, hregs, hstatus, congrArg Engine.phase hengine, hbus, hrdata, hparams,
    fun hidle => ?_, fun id hid a => h.mems id a ?_, fun hop id hid a => h.mems id a ?_, fun _ => ⟨?_, ?_⟩,
    fun _ a ha => h.mems .snap a ?_, fun a ha => h.mems .out a (Nat.not_lt.2 ha), fun hop => ?_, fun hop id hsel => ?_⟩
  · obtain ⟨hmems, htables, -⟩ := softReset_idle s hidle
    exact ⟨hmems, htables⟩
  · simp only [List.mem_cons, List.not_mem_nil, or_false] at hid
    obtain rfl | rfl | rfl := hid <;> exact not_false
  · simp only [List.mem_cons, List.not_mem_nil, or_false] at hid
    obtain rfl | rfl := hid
    · exact fun ⟨⟨hop', _⟩, _⟩ => hop hop'
    · exact fun ⟨hop', _⟩ => hop hop'
  · exact fun a ha => h.mems .canvas a fun ⟨_, hlt⟩ => Nat.not_lt.2 ha hlt
  · exact fun x y c hon hframe hprev => h.mems .canvas _ (not_mayDisturb_pixel hon hframe hprev)
  · exact fun ⟨_, hlt⟩ => Nat.not_lt.2 ha hlt
  · exact Tables.ext_get fun id => h.tables id (not_mayBuild_of_defilter_or_composite hop id)
  · refine h.tables id ?_
    rintro (hinf | ⟨-, hsel'⟩)
    · rw [hop] at hinf
      cases hinf
    · exact hsel (by cases id <;> exact hsel')

end Sys2Proof.Machine
end

section
/-! PROOFS. The order in which a running command reads its codes: the points that can follow each point (R184, R195, R203,
R220, R253 to R256). -/

namespace Sys2Proof.Machine

open Sys2Proof.Claims

/-! ### The points of a command -/

/-- Where a command may stand after the element or code read at a point, if it has not ended: the arrows of R184 and of the
command bodies. -/
def Phase.next : Phase → List Phase
  | .format => [.zlibCmf, .filt, .blendMode]
  | .zlibCmf => [.zlibFlg]
  | .zlibFlg => [.hdr]
  | .hdr => [.hdr, .codeLens, .syms, .filt]
  | .codeLens => [.codeLens, .syms]
  | .syms => [.syms, .dist, .hdr, .filt]
  | .dist => [.syms]
  | .filt => [.filt]
  | .blendMode => [.disposeCheck]
  | .disposeCheck => [.blendCheck]
  | .blendCheck => [.disposeRestore]
  | .disposeRestore => [.disposeSnap]
  | .disposeSnap => [.paint]
  | .idle | .paint | .tblSel => []

/-- A command still running in `t` stands at one of `ps`. -/
def State.StandsIn (t : State) (ps : List Phase) : Prop := t.status.busy = true → t.engine.phase ∈ ps

/-- If the outcome is a next state, a command still running in it stands at one of `ps`. -/
def NextStandsIn (ps : List Phase) (o : Host.Outcome State Fault Refusal) : Prop := ∀ t, o = .next t → t.StandsIn ps

/-- A body that raises no error ends the command or leaves it at one of `ps`. -/
def BodyStandsIn (ps : List Phase) (body : Except Err State) : Prop := ∀ t, body = .ok t → t.StandsIn ps

section
variable {ps : List Phase}

theorem State.StandsIn.of_eq (p : Phase) {t : State} (heq : t.engine.phase = p) (hp : p ∈ ps) : t.StandsIn ps :=
  fun _ => heq ▸ hp

theorem State.standsIn_finish (s : State) : s.finish.StandsIn ps := fun hbusy => nomatch hbusy

/-- R283: an error ends the command. -/
theorem State.standsIn_raise (e : Err) (s : State) : (raise e s).StandsIn ps := fun hbusy => by
  rw [(raise_spec e s).status] at hbusy
  cases hbusy

theorem NextStandsIn.next {t : State} (h : t.StandsIn ps) : NextStandsIn ps (.next t) := fun _ heq => by
  cases heq; exact h

theorem BodyStandsIn.ok {t : State} (h : t.StandsIn ps) : BodyStandsIn ps (.ok t) := fun _ heq => by cases heq; exact h

theorem BodyStandsIn.error (e : Err) : BodyStandsIn ps (.error e) := fun _ heq => nomatch heq

theorem BodyStandsIn.mono {qs : List Phase} {body : Except Err State} (h : BodyStandsIn ps body) (hsub : ps ⊆ qs) :
    BodyStandsIn qs body := fun t heq hbusy => hsub (h t heq hbusy)

theorem BodyStandsIn.settle {s : State} {body : Except Err State} (h : BodyStandsIn ps body) :
    NextStandsIn ps (settle s body) := by
  obtain ⟨t, hbody, heq⟩ | ⟨e, -, heq⟩ := settle_cases s body <;> rw [heq]
  · exact .next (h t hbody)
  · exact .next (s.standsIn_raise e)

end

/-! ### What the Inflate's elements go on to (R184) -/

section
variable (s : State)

theorem standsIn_endBlock : BodyStandsIn [.hdr, .filt] (endBlock s) := by
  unfold endBlock endInflate
  dsimp only
  split_ifs
  · exact .error _
  · exact .ok (.of_eq .filt rfl (by decide))
  · exact .ok (State.standsIn_finish _)
  · exact .ok (.of_eq .hdr rfl (by decide))

theorem standsIn_bodyStored : BodyStandsIn [.hdr, .filt] (bodyStored s) := by
  unfold bodyStored
  split
  · exact .error _
  · exact standsIn_endBlock _

theorem standsIn_dynamicHeader : BodyStandsIn [.codeLens] (dynamicHeader s) := by
  unfold dynamicHeader
  split
  · exact .error _
  split
  · exact .error _
  split
  · exact .error _
  split
  · exact .error _
  dsimp only
  split
  · exact .error _
  · exact .ok (.of_eq .codeLens rfl (by decide))

theorem standsIn_nextCodeLength : BodyStandsIn [.codeLens, .syms] (nextCodeLength s) := by
  unfold nextCodeLength
  split
  · exact .ok (.of_eq .codeLens rfl (by decide))
  unfold buildBlockTables
  split
  · exact .error _
  split
  · exact .error _
  · exact .ok (.of_eq .syms rfl (by decide))

theorem standsIn_repeatCount (base width v : Nat) : BodyStandsIn [.codeLens, .syms] (repeatCount base width v s) := by
  unfold repeatCount
  split
  · exact .error _
  unfold repeatFill
  split
  · exact .error _
  · exact standsIn_nextCodeLength _

theorem standsIn_bodyClRepeatPrev : BodyStandsIn [.codeLens, .syms] (bodyClRepeatPrev s) := by
  unfold bodyClRepeatPrev
  split
  · exact .error _
  · exact standsIn_repeatCount s _ _ _

theorem standsIn_bodyLit (hp : s.engine.phase = .syms) (v : Nat) : BodyStandsIn [.syms] (bodyLit v s) := by
  unfold bodyLit
  split
  · exact .error _
  · exact .ok (.of_eq .syms hp (by decide))

theorem standsIn_bodyLen (sym : Nat) : BodyStandsIn [.dist] (bodyLen sym s) := by
  unfold bodyLen
  split
  · exact .error _
  · exact .ok (.of_eq .dist rfl (by decide))

theorem standsIn_bodyDist (dsym : Nat) : BodyStandsIn [.syms] (bodyDist dsym s) := by
  unfold bodyDist
  split
  · exact .error _
  dsimp only
  split_ifs
  · exact .error _
  · exact .error _
  · exact .ok (.of_eq .syms rfl (by decide))

end

/-! ### What a code goes on to, where it is read -/

section
variable {s : State} {w : Nat} {i : Instr}

theorem standsIn_blockHdr (hdec : decode .blockHdr w = .ok i) : NextStandsIn Phase.hdr.next (exec i s) := by
  obtain ⟨-, henc⟩ := decodeBlockHdr_eq_ok_iff.1 hdec
  unfold encodeBlockHdr at henc
  split at henc
  · exact ((standsIn_bodyStored _).mono (by decide)).settle
  · exact .next (.of_eq .syms rfl (by decide))
  · exact ((standsIn_dynamicHeader _).mono (by decide)).settle
  · exact (BodyStandsIn.error _).settle
  · cases henc

theorem standsIn_clSym (hdec : decode .clSym w = .ok i) : NextStandsIn Phase.codeLens.next (exec i s) := by
  obtain ⟨-, henc⟩ := decodeCLSym_eq_ok_iff.1 hdec
  unfold encodeCLSym at henc
  split at henc
  · exact (standsIn_nextCodeLength _).settle
  · exact (standsIn_bodyClRepeatPrev s).settle
  · exact (standsIn_repeatCount s 3 3 0).settle
  · exact (standsIn_repeatCount s 11 7 0).settle
  · cases henc

theorem standsIn_llSym (hp : s.engine.phase = .syms) (hdec : decode .llSym w = .ok i) :
    NextStandsIn Phase.syms.next (exec i s) := by
  obtain ⟨-, henc⟩ := decodeLLSym_eq_ok_iff.1 hdec
  unfold encodeLLSym at henc
  split at henc
  · exact ((standsIn_bodyLit s hp _).mono (by decide)).settle
  · exact ((standsIn_endBlock s).mono (by decide)).settle
  · next sym =>
    rw [exec_len]
    exact ((standsIn_bodyLen s sym).mono (by decide)).settle
  · exact (BodyStandsIn.error _).settle
  · cases henc

theorem standsIn_dSym (hdec : decode .dSym w = .ok i) : NextStandsIn Phase.dist.next (exec i s) := by
  obtain ⟨-, henc⟩ := decodeDSym_eq_ok_iff.1 hdec
  unfold encodeDSym at henc
  split at henc
  · exact (standsIn_bodyDist s _).settle
  · exact (BodyStandsIn.error _).settle
  · cases henc

/-- R195 -/
theorem standsIn_zlibCmf (hdec : decode .zlibCmf w = .ok i) : NextStandsIn Phase.zlibCmf.next (exec i s) := by
  obtain ⟨-, henc⟩ := decodeZlibCmf_eq_ok_iff.1 hdec
  unfold encodeZlibCmf at henc
  split at henc
  · exact .next (.of_eq .zlibFlg rfl (by decide))
  · cases henc

/-- R194 -/
theorem standsIn_zlibFlg (hdec : decode .zlibFlg w = .ok i) : NextStandsIn Phase.zlibFlg.next (exec i s) := by
  obtain ⟨-, henc⟩ := decodeZlibFlg_eq_ok_iff.1 hdec
  unfold encodeZlibFlg at henc
  split at henc
  · exact .next (.of_eq .hdr rfl (by decide))
  · cases henc

/-- R222, R253, R254: a matched format goes on with the command that needed it. -/
theorem standsIn_acceptFormat (hop : Phase.format.ops.contains s.runningOp = true) (ct bpp : Nat) :
    BodyStandsIn Phase.format.next (acceptFormat ct bpp s) := by
  unfold acceptFormat
  split
  · unfold defilterChecks
    dsimp only
    split_ifs
    · exact .error _
    · exact .error _
    · exact .ok (.of_eq .filt rfl (by decide))
  · unfold decodeFrameChecks
    dsimp only
    split_ifs
    · exact .error _
    · exact .error _
    · exact .ok (.of_eq .zlibCmf rfl (by decide))
  · unfold compositeFormatCheck
    split
    · exact .ok (.of_eq .blendMode rfl (by decide))
    · exact .error _
  · next hdefilter hframe hcomposite =>
    have hop : s.runningOp = 3 ∨ s.runningOp = 4 ∨ s.runningOp = 5 := by simpa [Phase.ops] using hop
    exact (hop.elim hdefilter (Or.elim · hframe hcomposite)).elim

/-- R203, R204, R210: a filter type reconstructs a row, or raises an error. -/
theorem exec_filterType_cases (hdec : decode .filterType w = .ok i) (s : State) :
    (∃ pred, exec i s = .next (filterRow pred s)) ∨ ∃ e, exec i s = .next (raise e s) := by
  obtain ⟨-, henc⟩ := decodeFilterType_eq_ok_iff.1 hdec
  unfold encodeFilterType at henc
  split at henc
  case h_6 => exact .inr ⟨_, rfl⟩
  case h_7 => cases henc
  all_goals exact .inl ⟨_, rfl⟩

/-- R203, R210: after a row the command has ended, or the row below it is next. -/
theorem filterRow_next {pred : Predictor} (hbusy : (filterRow pred s).status.busy = true) :
    (filterRow pred s).engine.phase = .filt ∧ (filterRow pred s).engine.row = s.engine.row + 1 := by
  unfold filterRow at hbusy ⊢
  dsimp only at hbusy ⊢
  split_ifs at hbusy ⊢
  · exact ⟨rfl, rfl⟩
  · cases hbusy

theorem standsIn_filterType (hdec : decode .filterType w = .ok i) : NextStandsIn Phase.filt.next (exec i s) := by
  obtain ⟨pred, heq⟩ | ⟨e, heq⟩ := exec_filterType_cases hdec s <;> rw [heq]
  · exact .next fun hbusy => List.mem_singleton.2 (filterRow_next hbusy).1
  · exact .next (s.standsIn_raise e)

/-! The checks and steps of COMPOSITE (R220, R222). -/

theorem standsIn_blendMode (hdec : decode .blendMode w = .ok i) : NextStandsIn Phase.blendMode.next (exec i s) := by
  obtain ⟨-, henc⟩ := decodeBlendMode_eq_ok_iff.1 hdec
  unfold encodeBlendMode at henc
  split at henc
  case h_4 => exact (BodyStandsIn.error _).settle
  case h_5 => cases henc
  all_goals exact .next (.of_eq .disposeCheck rfl (by decide))

theorem standsIn_disposeCheck (hdec : decode (.dispose .check) w = .ok i) :
    NextStandsIn Phase.disposeCheck.next (exec i s) := by
  obtain hmem | rfl := decode_dispose_ok hdec
  · rw [exec_disposeCheck hmem]
    exact .next (.of_eq .blendCheck rfl (by decide))
  · exact (BodyStandsIn.error _).settle

theorem standsIn_blendCheck (hdec : decode (.blend .check) w = .ok i) : NextStandsIn Phase.blendCheck.next (exec i s) := by
  have hchecked : BodyStandsIn Phase.blendCheck.next (blendChecked s) := by
    unfold blendChecked
    split
    · exact .error _
    · exact .ok (.of_eq .disposeRestore rfl (by decide))
  obtain rfl | rfl | rfl := decode_blend_ok hdec
  · exact hchecked.settle
  · exact hchecked.settle
  · exact (BodyStandsIn.error _).settle

theorem standsIn_disposeRestore (hdec : decode (.dispose .restore) w = .ok i) :
    NextStandsIn Phase.disposeRestore.next (exec i s) := by
  obtain hmem | rfl := decode_dispose_ok hdec
  · rw [exec_restore hmem]
    exact .next (.of_eq .disposeSnap rfl (by decide))
  · exact .next (.of_eq .disposeSnap rfl (by decide))

theorem standsIn_disposeSnap (hdec : decode (.dispose .snap) w = .ok i) :
    NextStandsIn Phase.disposeSnap.next (exec i s) := by
  obtain hmem | rfl := decode_dispose_ok hdec
  · rw [exec_snap hmem]
    exact .next (.of_eq .paint rfl (by decide))
  · exact .next (.of_eq .paint rfl (by decide))

theorem standsIn_blendPaint (hdec : decode (.blend .paint) w = .ok i) : NextStandsIn Phase.paint.next (exec i s) := by
  obtain rfl | rfl | rfl := decode_blend_ok hdec <;> exact .next (State.standsIn_finish _)

/-- R256 -/
theorem standsIn_tblSel (hdec : decode .tblSel w = .ok i) : NextStandsIn Phase.tblSel.next (exec i s) := by
  have hbuilt (id : TableId) : BodyStandsIn Phase.tblSel.next (buildSelected id s) := by
    unfold buildSelected
    dsimp only
    split_ifs
    · exact .error _
    · exact .error _
    · exact .error _
    split
    · exact .error _
    · exact .ok (State.standsIn_finish _)
  obtain ⟨-, henc⟩ := decodeTblSel_eq_ok_iff.1 hdec
  unfold encodeTblSel at henc
  split at henc
  · exact (hbuilt .tll).settle
  · exact (hbuilt .td).settle
  · exact (hbuilt .tcl).settle
  · exact (BodyStandsIn.error _).settle
  · cases henc

end

/-! ### The step -/

/-- An element read where a running command stands takes it to a point that follows, if it does not end it. -/
theorem standsIn_fetched {s t : State} (hbounds : s.inBounds = true) {fmt : Format} {w : Nat} {i : Instr}
    (hfetch : fetch s = .ok (fmt, w, t)) (hdec : decode fmt w = .ok i) : NextStandsIn s.engine.phase.next (exec i t) := by
  cases hp : s.engine.phase
  all_goals
    obtain ⟨hop, -⟩ := State.bounds_at hp hbounds
    simp only [fetch, hp] at hfetch
  case idle => exact absurd hop Bool.false_ne_true
  case format =>
    cases hfetch
    obtain ⟨bpp, -, hexec⟩ := exec_of_decode_color s.regs.colorType.isLt hdec
    rw [hexec]
    exact (standsIn_acceptFormat hop _ bpp).settle
  case zlibCmf =>
    obtain ⟨rfl, -⟩ := fetchCmf_ok hfetch
    exact standsIn_zlibCmf hdec
  case hdr =>
    obtain ⟨rfl, -⟩ := fetchHeader_ok hfetch
    exact standsIn_blockHdr hdec
  case codeLens =>
    obtain ⟨rfl, -⟩ := fetchSymbol_ok hfetch
    exact standsIn_clSym hdec
  case syms =>
    obtain ⟨rfl, -, cur, rfl, -⟩ := fetchSymbol_ok hfetch
    exact standsIn_llSym hp hdec
  case dist =>
    obtain ⟨rfl, -⟩ := fetchSymbol_ok hfetch
    exact standsIn_dSym hdec
  all_goals cases hfetch
  case zlibFlg => exact standsIn_zlibFlg hdec
  case filt => exact standsIn_filterType hdec
  case blendMode => exact standsIn_blendMode hdec
  case disposeCheck => exact standsIn_disposeCheck hdec
  case blendCheck => exact standsIn_blendCheck hdec
  case disposeRestore => exact standsIn_disposeRestore hdec
  case disposeSnap => exact standsIn_disposeSnap hdec
  case paint => exact standsIn_blendPaint hdec
  case tblSel => exact standsIn_tblSel hdec

/-- A step of a running command raises an error, or runs the element read where the command stands. -/
theorem engineStep_cases {s t : State} (hbounds : s.inBounds = true) (h : engineStep s = .next t) :
    (∃ e u, t = raise e u) ∨
      ∃ fmt w u i, fetch s = .ok (fmt, w, u) ∧ decode fmt w = .ok i ∧ exec i u = .next t := by
  rw [engineStep, if_pos hbounds] at h
  split at h
  · cases h
    exact .inl ⟨_, _, rfl⟩
  next hfetch =>
  split at h
  · next hdec => exact .inr ⟨_, _, _, _, hfetch, hdec, h⟩
  split at h
  · cases h
    exact .inl ⟨_, _, rfl⟩
  · cases h

/-- A step ends the command or takes it to a point that follows. -/
theorem standsIn_engineStep {s t : State} (hbounds : s.inBounds = true) (h : engineStep s = .next t) :
    t.StandsIn s.engine.phase.next := by
  obtain ⟨e, u, rfl⟩ | ⟨fmt, w, u, i, hfetch, hdec, hexec⟩ := engineStep_cases hbounds h
  · exact u.standsIn_raise e
  · exact standsIn_fetched hbounds hfetch hdec t hexec

/-- R203: a command that goes on after a row goes on with the row below it. -/
theorem engineStep_filt_row {s t : State} (hbounds : s.inBounds = true) (hp : s.engine.phase = .filt)
    (h : engineStep s = .next t) (hbusy : t.status.busy = true) : t.engine.row = s.engine.row + 1 := by
  obtain ⟨e, u, rfl⟩ | ⟨fmt, w, u, i, hfetch, hdec, hexec⟩ := engineStep_cases hbounds h
  · cases u.standsIn_raise (ps := []) e hbusy
  · cases (fetch_filt hp).symm.trans hfetch
    obtain ⟨pred, heq⟩ | ⟨e, heq⟩ := exec_filterType_cases hdec s <;> cases heq.symm.trans hexec
    · exact (filterRow_next hbusy).2
    · cases s.standsIn_raise (ps := []) e hbusy

end Sys2Proof.Machine
end

section
/-! PROOFS. Every command terminates (R331): a count of the elements that may still be read, which every step lowers. -/

namespace Sys2Proof.Machine

open Sys2Proof.Claims

/-! ### The elements still to come (R331) -/

/-- A bound on the elements that a command standing at a point may still read: one for each code of a COMPOSITE, one for each
bit of IN of an Inflate, and one for each row, which takes at least a byte of OUT. At the format check it exceeds both that
of a zlib header and that of a COMPOSITE's checks. -/
def Phase.mostLeft (p : Params) : Phase → Nat
  | .idle => 0
  | .tblSel | .paint => 1
  | .disposeSnap => 2
  | .disposeRestore => 3
  | .blendCheck => 4
  | .disposeCheck => 5
  | .blendMode => 6
  | .filt => p.outCap
  | .hdr | .codeLens | .syms | .dist => 8 * p.inCap + p.outCap + 1
  | .zlibFlg => 8 * p.inCap + p.outCap + 2
  | .zlibCmf => 8 * p.inCap + p.outCap + 3
  | .format => 8 * p.inCap + p.outCap + 7

/-- How many elements the running command may still read: in the two loops, its input's bits from the cursor on with the rows
to come, and the rows from the current one on; at the other points, the bound. -/
def State.elementsLeft (s : State) : Nat :=
  match s.engine.phase with
  | .hdr | .codeLens | .syms | .dist => 8 * s.engine.inlen - s.engine.cur + s.params.outCap + 1
  | .filt => s.regs.frameH.toNat - s.engine.row
  | p => p.mostLeft s.params

theorem State.elementsLeft_inflate {s : State} (hp : s.engine.phase ∈ inflatePhases) :
    s.elementsLeft = 8 * s.engine.inlen - s.engine.cur + s.params.outCap + 1 := by
  simp only [inflatePhases, List.mem_cons, List.not_mem_nil, or_false] at hp
  unfold State.elementsLeft
  obtain hp | hp | hp | hp := hp <;> rw [hp]

theorem State.elementsLeft_filt {s : State} (hp : s.engine.phase = .filt) :
    s.elementsLeft = s.regs.frameH.toNat - s.engine.row := by
  rw [State.elementsLeft, hp]

theorem State.elementsLeft_of_ne {s : State} (hinf : s.engine.phase ∉ inflatePhases) (hfilt : s.engine.phase ≠ .filt) :
    s.elementsLeft = s.engine.phase.mostLeft s.params := by
  unfold State.elementsLeft
  split <;> simp_all [inflatePhases]

theorem Phase.mostLeft_inflate {q : Phase} (hq : q ∈ inflatePhases) (p : Params) :
    q.mostLeft p = 8 * p.inCap + p.outCap + 1 := by
  simp only [inflatePhases, List.mem_cons, List.not_mem_nil, or_false] at hq
  obtain rfl | rfl | rfl | rfl := hq <;> rfl

/-- R202: each row of a frame takes at least its filter-type byte of the S bytes in OUT. -/
theorem State.frameH_le {s : State} (h : s.frameFits = true) : s.regs.frameH.toNat ≤ s.params.outCap := by
  obtain ⟨-, -, -, hsize⟩ := s.frameFits_iff.mp h
  exact (Nat.le_mul_of_pos_left _ (Nat.succ_pos _)).trans hsize

/-- R88: where the checks of a command have let it come, its loops are bounded by IN and by OUT. -/
theorem State.elementsLeft_le {s : State} (hbounds : s.inBounds = true) :
    s.elementsLeft ≤ s.engine.phase.mostLeft s.params := by
  by_cases hinf : s.engine.phase ∈ inflatePhases
  · rw [State.elementsLeft_inflate hinf, Phase.mostLeft_inflate hinf]
    rw [State.inBounds_inflate hinf, Bool.and_eq_true, State.inflateFits_iff] at hbounds
    obtain ⟨-, hin, -⟩ := hbounds
    omega
  by_cases hfilt : s.engine.phase = .filt
  · obtain ⟨-, hfits⟩ := State.bounds_at hfilt hbounds
    rw [State.elementsLeft_filt hfilt, hfilt]
    exact (Nat.sub_le _ _).trans (State.frameH_le (Bool.and_eq_true_iff.mp hfits).1)
  · exact (State.elementsLeft_of_ne hinf hfilt).le

/-- Away from the loops of the Inflate and of the rows, a point is followed by points at which less is left. -/
theorem Phase.mostLeft_lt_of_mem_next {p q : Phase} (hinf : p ∉ inflatePhases) (hfilt : p ≠ .filt) (hq : q ∈ p.next)
    (c : Params) : q.mostLeft c < p.mostLeft c := by
  cases p <;> simp [Phase.next] at hq
  case format => obtain rfl | rfl | rfl := hq <;> simp only [Phase.mostLeft] <;> omega
  case hdr | codeLens | syms | dist => exact absurd (by decide) hinf
  case filt => exact absurd rfl hfilt
  all_goals
    subst hq
    simp [Phase.mostLeft]

theorem Phase.mem_inflate_or_filt_of_mem_next {p q : Phase} (hp : p ∈ inflatePhases) (hq : q ∈ p.next) :
    q ∈ inflatePhases ∨ q = .filt := by
  simp only [inflatePhases, List.mem_cons, List.not_mem_nil, or_false] at hp
  obtain rfl | rfl | rfl | rfl := hp <;> revert q <;> decide

/-! ### Every step lowers the count -/

section
variable {s t : State} (hinv : s.Inv) (hbusy : s.status.busy = true) (hstep : engineStep s = .next t)
  (hbusy' : t.status.busy = true)
include hinv hbusy hstep hbusy'

/-- R203: the rows are read once each. -/
theorem elementsLeft_lt_of_filt (hp : s.engine.phase = .filt) : t.elementsLeft < s.elementsLeft := by
  have hbounds := hinv.engine.1 hbusy
  have hp' : t.engine.phase = .filt := by
    simpa [hp, Phase.next] using standsIn_engineStep hbounds hstep hbusy'
  have hheight : t.regs.frameH = s.regs.frameH := by rw [(writes_engineStep hbounds t hstep).regs]
  obtain ⟨-, hfits⟩ := State.bounds_at hp hbounds
  have hrow : s.engine.row < s.regs.frameH.toNat := of_decide_eq_true (Bool.and_eq_true_iff.mp hfits).2
  rw [State.elementsLeft_filt hp, State.elementsLeft_filt hp', hheight, engineStep_filt_row hbounds hp hstep hbusy']
  omega

variable (ht : t.Inv)
include ht

/-- R142: an element of the Inflate takes at least one bit of its input, and the rows come after the Inflate. -/
theorem elementsLeft_lt_of_inflate (hp : s.engine.phase ∈ inflatePhases) : t.elementsLeft < s.elementsLeft := by
  have hbounds := hinv.engine.1 hbusy
  obtain ⟨-, -, hparams⟩ := (writes_engineStep hbounds t hstep).host
  obtain hp' | hp' := Phase.mem_inflate_or_filt_of_mem_next hp (standsIn_engineStep hbounds hstep hbusy')
  · obtain ⟨-, hexclusive, -⟩ := ht.status
    have hok : t.status.error = false := Bool.eq_false_iff.2 fun herror => hexclusive ⟨hbusy', herror⟩
    obtain ⟨cur, hread, hadv⟩ := engineStep_inflate hbounds hp hstep hok
    obtain ⟨-, hlen, -⟩ := Engine.given_eq_iff.1 hadv.given
    have hcur := ((ht.running hbusy').inflating hp' (ht.engine.1 hbusy')).cur
    have hle := hread.trans_le hadv.cur
    simp only [State.atCur_engine] at hlen
    rw [State.elementsLeft_inflate hp, State.elementsLeft_inflate hp', hparams]
    omega
  · have hle := State.elementsLeft_le (ht.engine.1 hbusy')
    rw [hp', Phase.mostLeft, hparams] at hle
    rw [State.elementsLeft_inflate hp]
    omega

/-- A step that does not end the command leaves fewer elements to read. -/
theorem elementsLeft_lt : t.elementsLeft < s.elementsLeft := by
  have hbounds := hinv.engine.1 hbusy
  by_cases hinf : s.engine.phase ∈ inflatePhases
  · exact elementsLeft_lt_of_inflate hinv hbusy hstep hbusy' ht hinf
  by_cases hfilt : s.engine.phase = .filt
  · exact elementsLeft_lt_of_filt hinv hbusy hstep hbusy' hfilt
  obtain ⟨-, -, hparams⟩ := (writes_engineStep hbounds t hstep).host
  calc t.elementsLeft
    _ ≤ t.engine.phase.mostLeft t.params := State.elementsLeft_le (ht.engine.1 hbusy')
    _ = t.engine.phase.mostLeft s.params := by rw [hparams]
    _ < s.engine.phase.mostLeft s.params :=
      Phase.mostLeft_lt_of_mem_next hinf hfilt (standsIn_engineStep hbounds hstep hbusy') s.params
    _ = s.elementsLeft := (State.elementsLeft_of_ne hinf hfilt).symm

end

/-! ### Runs -/

/-- With the host quiet a running command makes a step, which ends it or leaves fewer elements to read. -/
theorem step_running {s : State} (hinv : s.Inv) (hbusy : s.status.busy = true) (hbus : s.bus = []) :
    ∃ t, step s = .next t ∧ t.Inv ∧ t.bus = [] ∧ (t.status.busy = true → t.elementsLeft < s.elementsLeft) := by
  obtain ⟨t, hstep⟩ := (noStepFaults s hinv).2 hbus
  have hengine := (step_busy_nil hbusy hbus).symm.trans hstep
  have ht := everyStepKeepsTheInvariant s t hinv hstep
  obtain ⟨hbus', -⟩ := (writes_engineStep (hinv.engine.1 hbusy) t hengine).host
  exact ⟨t, hstep, ht, hbus'.trans hbus, fun hbusy' => elementsLeft_lt hinv hbusy hengine hbusy' ht⟩

/-- A step that does not end the command lowers the count, so the command ends at the latest one step after none is left. -/
theorem run_terminates {s : State} (hinv : s.Inv) (hbusy : s.status.busy = true) (hbus : s.bus = []) :
    ∃ k ≤ s.elementsLeft + 1, ∃ t, core.run k s = .next t ∧ t.status.busy = false := by
  obtain ⟨t, hstep, ht, hbus', hless⟩ := step_running hinv hbusy hbus
  cases hbusy' : t.status.busy with
  | false => exact ⟨1, Nat.le_add_left .., t, core_run_succ hstep 0, hbusy'⟩
  | true =>
    have hless := hless hbusy'
    obtain ⟨k, hk, u, hrun, hidle⟩ := run_terminates ht hbusy' hbus'
    exact ⟨k + 1, by omega, u, (core_run_succ hstep k).trans hrun, hidle⟩
termination_by s.elementsLeft
decreasing_by exact hless

theorem Phase.mostLeft_le (p : Phase) (c : Params) : p.mostLeft c ≤ 8 * c.inCap + c.outCap + 7 := by
  cases p <;> simp only [Phase.mostLeft] <;> omega

/-- Settles O18: every step lowers the count of the elements still to read, at most 8 · P_IN_CAP + P_OUT_CAP + 7. -/
theorem everyCommandTerminates : Obligations.EveryCommandTerminates := by
  intro s hinv hbusy hbus
  have hleft := (State.elementsLeft_le (hinv.engine.1 hbusy)).trans (Phase.mostLeft_le _ _)
  obtain ⟨k, hk, hrun⟩ := run_terminates hinv hbusy hbus
  exact ⟨k, by omega, hrun⟩

end Sys2Proof.Machine
end
